-- ==== Sys2Proof/Word.lean ====
section
/-! DEFINITION. The plain value types of the part: bytes of a frame, keys, counts and network times.

The spec counts and compares every quantity but a byte, a key and a title reference (those three are
bits to the part), so counts and times are natural numbers and only the three are bit vectors. -/

namespace Sys2Proof

/-- One byte of a request body, reply body or packet payload (00_scope, "Byte order"). -/
abbrev Byte := BitVec 8

/-- An unwrapped key, 64 opaque bits (R122, R134). -/
abbrev Key := BitVec 64

/-- A local count: milliseconds since the last power reset (R1). -/
abbrev Count := Nat

/-- A network time in milliseconds since the network epoch (R3). -/
abbrev NetMs := Nat

/-- A network second, floor(T / 1000) (R3). -/
abbrev NetSec := Nat

/-- A carrier input 0..3 (R53). -/
abbrev InputNo := Fin 4

/-- A stream path 0..5: 0 MAIN, 1 INSET, 2..5 RECORD (R70). -/
abbrev PathNo := Fin 6

/-- A parental profile 0..4 (R141). -/
abbrev ProfileNo := Fin 5

end Sys2Proof
end

