-- ==== Sys2Proof/Config.lean ====
section
/-! DEFINITION. What the manual leaves to the implementation and the model leaves free.

The manual gives every timeout and limit as a number, so those stand in the operations that use
them. The one thing it uses and does not give is the cipher of the stream: a packet is
"descrambled with the key of slot A" (R88) by an algorithm the manual nowhere states. -/

namespace Sys2Proof

/-- FREE VALUE (log entry 3). What descrambling a payload with a key gives (R88). The manual does
not state the cipher, so nothing constrains this function. -/
opaque Config.descramble : Key → List Byte → List Byte

end Sys2Proof
end

