-- ==== Sys2Proof/Syntax.lean ====
section
/-! DEFINITION. The commands of the part: one constructor of `Instr` per row of
spec/opcode_table.json. A row that is a request of an agent is the taking of that request from the
head of the agent's link queue (R183), so its one operand is the agent; the request's fields travel
as the bytes of its frame, which `FRAME_ARRIVAL` puts into the queue. A row that is an arrival from a
tuner, the card, the flash or a pin carries what arrives; a row that is an expiry carries the name of
the timer. -/

namespace Sys2Proof

/-- The three agents, numbered 1 to 3 by link (00_scope, "The agents"). -/
inductive Agent where
  | media | network | panel
  deriving DecidableEq, Repr

/-- The two phases of scrambling (R134). -/
inductive Phase where
  | a | b
  deriving DecidableEq, Repr

/-- The scrambling mark of a transport packet: clear, or scrambled for one phase (R88). -/
inductive Scrambling where
  | clear
  | phase (ph : Phase)
  deriving DecidableEq, Repr

/-- A transport packet as the tuner delivers it: stream tag, scrambling mark and payload (R60, R88). -/
structure Packet where
  tag     : Nat
  mark    : Scrambling
  payload : List Byte
  deriving DecidableEq, Repr

/-- A frame as it arrives: the header's link tag, request code and body length, and the body bytes
that were transferred (R182; 00_scope, "Request and reply frames"). -/
structure Frame where
  linkTag : Nat
  code    : Nat
  length  : Nat
  body    : List Byte
  deriving DecidableEq, Repr

/-- What an agent link receives: the first byte of a frame, with which its transfer begins, or the end of a
transfer with the frame it brought (R182). A frame whose bytes come at one count needs no beginning of its
own (log entry 13). -/
inductive Arrival where
  | begins
  | ends (f : Frame)
  deriving DecidableEq, Repr

/-- The payload of a DONE reply of the card (R122, R124). `other` is any payload that is neither a
verdict VALID or INVALID nor a key of 64 bits. -/
inductive DonePayload where
  | verdict (valid : Bool)
  | key (k : Key)
  | other
  deriving DecidableEq, Repr

/-- The commands, in the order of the opcode table. -/
inductive Instr where
  -- resets, links and the lead (R179, R182 to R192)
  | powerReset
  | frameArrival (a : Agent) (x : Arrival)
  | frameTimeout (a : Agent)
  | agentResetHeld (a : Agent)
  | agentResetReleased (a : Agent)
  | unknownRequest (a : Agent)
  | hello (a : Agent)
  | resign (a : Agent)
  | disable (a : Agent)
  | enable (a : Agent)
  | noticeMap (a : Agent)
  | readNotices (a : Agent)
  | linkStatus (a : Agent)
  -- network time (R14 to R20, R60)
  | timeMark (a : Agent)
  | timeSource (a : Agent)
  | timeSet (a : Agent)
  | zoneSet (a : Agent)
  | timeRead (a : Agent)
  | endOfSlewExpiry
  | holdoverExpiry
  | transportPacket (i : InputNo) (pkt : Packet)
  -- the lineup (R26 to R37)
  | lineupBegin (a : Agent)
  | lineupAdd (a : Agent)
  | lineupEnd (a : Agent)
  | lineupRead (a : Agent)
  -- the guide (R44 to R52)
  | guideLoad (a : Agent)
  | guideDrop (a : Agent)
  | guideRead (a : Agent)
  | sweepExpiry
  -- carrier inputs (R56 to R69)
  | tunerLock (i : InputNo) (seq : Nat)
  | tunerNoSignal (i : InputNo) (seq : Nat)
  | tunerUnlock (i : InputNo) (seq : Nat)
  | tuneTimeout (i : InputNo)
  | retuneExpiry (i : InputNo)
  | claimQueueService
  | inputRead (a : Agent)
  -- stream paths (R74 to R94)
  | tunePath (a : Agent)
  | stepPath (a : Agent)
  | releasePath (a : Agent)
  | pathRead (a : Agent)
  | boundaryExpiry (p : PathNo)
  -- entitlements (R97 to R117)
  | purchase (a : Agent)
  | tierExpiry (tier : Nat)
  | purchaseEndExpiry (service event : Nat)
  | grant (a : Agent)
  | reportFetch (a : Agent)
  | reportClear (a : Agent)
  | entitlementRead (a : Agent)
  -- the card (R119 to R139)
  | cardInsertion
  | cardRemoval
  | answerToReset
  | cardResetExpiry
  | cardWakeExpiry
  | cardDone (tag : Nat) (payload : DonePayload)
  | cardBusyReply (tag : Nat)
  | cardReject (tag reason : Nat)
  | resendExpiry (tag : Nat)
  | transactionTimeout (tag : Nat)
  | tagRestEnd (tag : Fin 4)
  | transactionDispatch
  | cardClockStop
  | cardStatus (a : Agent)
  | cardReset (a : Agent)
  | faultRead (a : Agent)
  | faultClear (a : Agent)
  -- parental limits (R143 to R154)
  | profileSelect (a : Agent)
  | profileWrite (a : Agent)
  | unlock (a : Agent)
  | extend (a : Agent)
  | parentalStatus (a : Agent)
  | lockoutExpiry
  | minuteExpiry
  | edgeExpiry
  | rolloverExpiry
  -- recording jobs (R158 to R165)
  | jobAdd (a : Agent)
  | jobRemove (a : Agent)
  | jobList (a : Agent)
  | jobStart (job : Nat)
  | startDueJobStart (job : Nat)
  | graceExpiry (job : Nat)
  | jobEndExpiry (job : Nat)
  -- power and the stored image (R171 to R181)
  | standby (a : Agent)
  | drainComplete
  | wake (a : Agent)
  | powerStatus (a : Agent)
  | partReset (a : Agent)
  | commitDelayExpiry
  | writeBegin
  | flashWriteComplete
  | flashWriteError
  | writeTimeout
  | cardReplyUnknownKind (tag : Nat)
  deriving DecidableEq, Repr

end Sys2Proof
end

