-- ==== Sys2Proof/Machine/State.lean ====
section
/-! DEFINITION. The state of the part: every item that the chapters' tables name, under its block.

Each structure cites the rule that names its items; the values after power reset stand in
`State.reset` at the end. Three fields are the model's own: `sent`, the log of everything the part has
sent; `gatesDue`, the gates an action has named and not yet evaluated (empty between commands); and
`pending`, the queue of commands waiting to be taken. -/

namespace Sys2Proof.Machine

/-! ## Network Time (R2) -/

/-- The state of the Time Base (R2). -/
inductive ClockState where
  | unset | set | holdover
  deriving DecidableEq, Repr

/-- The source of time marks (R2, R6). -/
inductive Source where
  | outOfBand | inBand
  deriving DecidableEq, Repr

/-- The previous mark (source, carrier input for an in-band mark, N, L_a) (R2, R9). -/
structure PrevMark where
  source  : Source
  input   : Option InputNo
  n       : NetMs
  takenAt : Count
  deriving DecidableEq, Repr

/-- The record of the Time Base (R2). -/
structure TimeBase where
  state       : ClockState
  baseL       : Count
  baseT       : NetMs
  rate        : Nat
  slew        : Int
  slewEnd     : Option Count
  holdover    : Option Count
  prevMark    : Option PrevMark
  source      : Source
  inBandInput : Option InputNo
  zone        : Int
  deriving DecidableEq, Repr

/-! ## The Lineup (R22 to R24) -/

/-- The kind of a component (R24). -/
inductive ComponentKind where
  | video | audio | subtitle | data
  deriving DecidableEq, Repr

/-- One component of a service; the language is three letters or absent (R24). -/
structure Component where
  kind     : ComponentKind
  tag      : Nat
  language : Option (List Byte)
  deriving DecidableEq, Repr

/-- The access class of a service (R24). -/
inductive AccessClass where
  | free
  | tier (t : Nat)
  | event
  deriving DecidableEq, Repr

/-- A carrier record (R23). -/
structure Carrier where
  id         : Nat
  frequency  : Nat
  modulation : Nat
  symbolRate : Nat
  deriving DecidableEq, Repr

/-- A service record (R24). -/
structure Service where
  id         : Nat
  channel    : Nat
  carrier    : Nat
  programme  : Nat
  components : List Component
  access     : AccessClass
  keyTag     : Option Nat
  rating     : Nat
  hidden     : Bool
  deriving DecidableEq, Repr

/-- A lineup with its version: carriers in order of carrier id, services in order of channel number
(R22, R25). -/
structure Lineup where
  version  : Nat
  carriers : List Carrier
  services : List Service
  deriving DecidableEq, Repr

/-! ## The Programme Guide (R38, R39) -/

/-- An event record (R39). -/
structure GuideEvent where
  service  : Nat
  id       : Nat
  start    : NetSec
  duration : Nat
  rating   : Option Nat
  price    : Nat
  title    : BitVec 32
  deriving DecidableEq, Repr

/-- The event pool, in ascending order of service id and, within a service, of start, and the sweep
expiry (R38). The pool count is the length of the pool, and a service list is the pool's part of that
service. -/
structure Guide where
  pool        : List GuideEvent
  sweepExpiry : Count
  deriving DecidableEq, Repr

/-! ## Carrier Inputs (R53) -/

/-- The state of a carrier input (R53). -/
inductive InputState where
  | free | tuning | locked | lost
  deriving DecidableEq, Repr

/-- The record of a carrier input (R53). The holders stand in ascending path order. -/
structure CarrierInput where
  state       : InputState
  carrier     : Option Nat
  holders     : List PathNo
  sequence    : Nat
  tuneStart   : Count
  tuneTimeout : Option Count
  retune      : Option Count
  deriving DecidableEq, Repr

/-! ## Stream Paths (R70, R71) -/

/-- The reasons of IDLE (R71). -/
inductive IdleReason where
  | reset | released | serviceRemoved | standby | jobEnded
  deriving DecidableEq, Repr

/-- The reasons of STALLED (R71). -/
inductive StallReason where
  | inputTaken | noSignal
  deriving DecidableEq, Repr

/-- The reasons of DENIED, which are those of the access test (R71, R98). -/
inductive AccessReason where
  | notEntitled | tierExpired | notPurchased | noEvent | timeUnknown | cardAbsent
  deriving DecidableEq, Repr

/-- The reasons of BLOCKED, which are those of the parental verdict (R71, R149). -/
inductive BlockReason where
  | service | rating | window | allowance | timeUnknown
  deriving DecidableEq, Repr

/-- The state of a path together with the reason that goes with it (R70, R71). -/
inductive PathState where
  | idle (r : IdleReason)
  | tuning
  | acquiring
  | presenting
  | blocked (r : BlockReason)
  | denied (r : AccessReason)
  | stalled (r : StallReason)
  deriving DecidableEq, Repr

/-- The current event of a path: event id, start and end in network seconds (R70). -/
structure CurrentEvent where
  id    : Nat
  start : NetSec
  stop  : NetSec
  deriving DecidableEq, Repr

/-- A boundary timer: the network second of the boundary it was set from, and its expiry (R70, R89). -/
structure Boundary where
  moment : NetSec
  expiry : Count
  deriving DecidableEq, Repr

/-- A loaded key with its version (R134). -/
structure LoadedKey where
  version : Nat
  key     : Key
  deriving DecidableEq, Repr

/-- A key slot. Its state EMPTY, LOADING or LOADED follows from the items (R134). -/
structure Slot where
  loaded  : Option LoadedKey
  pending : Option Nat
  deriving DecidableEq, Repr

/-- An unlock scope: a service id and an event id, or NO_EVENT (none) (R70, R146). -/
structure Unlock where
  service : Nat
  event   : Option Nat
  deriving DecidableEq, Repr

/-- The record of a stream path (R70). Its role is given by its number. -/
structure Path where
  state        : PathState
  snapshot     : Option Service
  lastService  : Option Nat
  heldInput    : Option InputNo
  currentEvent : Option CurrentEvent
  boundary     : Option Boundary
  slotA        : Slot
  slotB        : Slot
  unlock       : Option Unlock
  job          : Option Nat
  lastChange   : Count
  deriving DecidableEq, Repr

/-! ## The Access Unit (R95, R96, R101) -/

/-- A tier record and its tier expiry (R96, R97). -/
structure Tier where
  tier   : Nat
  expiry : Option NetSec
  timer  : Option Count
  deriving DecidableEq, Repr

/-- A purchase record and its end expiry (R101, R102). -/
structure PurchaseRecord where
  service  : Nat
  event    : Nat
  start    : NetSec
  stop     : NetSec
  price    : Nat
  time     : NetSec
  granted  : Bool
  reported : Bool
  inBatch  : Bool
  timer    : Option Count
  deriving DecidableEq, Repr

/-- The Access Unit (R95). The records of an OPEN report batch are those whose in-batch flag is set,
in list order. -/
structure Access where
  tiers       : List Tier
  balance     : Nat
  purchases   : List PurchaseRecord
  batchOpen   : Bool
  batchNumber : Nat
  deriving DecidableEq, Repr

/-! ## The Card Link (R118, R122, R130) -/

/-- The state of the card (R118). -/
inductive CardState where
  | absent | resetting | ready | idleClock | waking | faulted
  deriving DecidableEq, Repr

/-- What a key message requires: a tier, or an event of the path's service (R99, R135). -/
inductive Requirement where
  | tier (t : Nat)
  | event (e : Nat)
  deriving DecidableEq, Repr

/-- A transaction: a VERIFY with its origin link, link tag and grant message, or an UNWRAP with its
path, phase, version, requirement and wrapped key (R122). `replyDue` says that the GRANT still waits
for its reply: a link reset clears it and the VERIFY goes on (R108). -/
inductive Transaction where
  | verify (link : Agent) (linkTag : Nat) (message : List Byte) (replyDue : Bool)
  | unwrap (path : PathNo) (phase : Phase) (version : Nat) (req : Requirement) (wrapped : List Byte)
  deriving DecidableEq, Repr

/-- An entry of the outstanding table (R122). -/
structure Entry where
  tag       : Nat
  tx        : Transaction
  sendCount : Count
  timeout   : Option Count
  resend    : Option Count
  busy      : Nat
  stale     : Bool
  deriving DecidableEq, Repr

/-- The faults of the Card Link (R130). -/
inductive CardFault where
  | resetTimeout | cardTimeout | cardBusy | unexpectedReply
  deriving DecidableEq, Repr

/-- The origin of a transaction, which also gives its kind (R122, R130). -/
inductive Origin where
  | verify (link : Agent) (linkTag : Nat)
  | unwrap (path : PathNo) (phase : Phase)
  deriving DecidableEq, Repr

/-- The fault capture when CAPTURED; `concern` holds the kind with the origin and the stale flag of
the entry concerned (R130). -/
structure Capture where
  fault   : CardFault
  tag     : Option Nat
  concern : Option (Origin × Bool)
  count   : Count
  lost    : Bool
  deriving DecidableEq, Repr

/-- The Card Link (R118). The insertion detect shows a card exactly when the state is not ABSENT. -/
structure CardLink where
  state       : CardState
  resetExpiry : Option Count
  wakeExpiry  : Option Count
  outstanding : List Entry
  resting     : Vector (Option Count) 4
  waiting     : List Transaction
  failures    : Nat
  capture     : Option Capture
  deriving DecidableEq, Repr

/-! ## Parental Limits (R140, R141) -/

/-- A PIN of four digits (R140). -/
structure Pin where
  d1 : Nat
  d2 : Nat
  d3 : Nat
  d4 : Nat
  deriving DecidableEq, Repr

/-- The fields of a profile (R141). -/
structure Profile where
  ceiling     : Nat
  blocked     : List Nat
  skip        : Bool
  purchasePin : Bool
  allowance   : Nat
  winStart    : Nat
  winStop     : Nat
  pin         : Pin
  deriving DecidableEq, Repr

/-- The meter of a profile (R140). -/
structure Meter where
  used      : Nat
  partialMs : Nat
  extension : Nat
  deriving DecidableEq, Repr

/-- The window side (R140, R152). -/
inductive WindowSide where
  | none | inside | outside | unknown
  deriving DecidableEq, Repr

/-- The Parental Unit (R140). `profiles` holds profiles 1..4; profile 0 is fixed (R141). The meter run
is `some L` when RUNNING from count L, for the active profile (R150). -/
structure Parental where
  profiles       : Vector Profile 4
  masterPin      : Pin
  startProfile   : ProfileNo
  active         : ProfileNo
  attempts       : Nat
  lockout        : Option Count
  meters         : Vector Meter 5
  run            : Option Count
  minuteExpiry   : Option Count
  lastRollover   : Option Int
  rolloverExpiry : Option Count
  side           : WindowSide
  edgeExpiry     : Option Count
  deriving DecidableEq, Repr

/-! ## Recording Jobs (R156, R157) -/

/-- The trigger of a job (R157). -/
inductive Trigger where
  | time
  | event (e : Nat)
  deriving DecidableEq, Repr

/-- The reasons of FAILED (R157). -/
inductive FailReason where
  | serviceRemoved | cancelled | eventGone | conflict | noCredit | listFull
  | access (r : AccessReason)
  deriving DecidableEq, Repr

/-- The state of a job with its reason (R157). -/
inductive JobState where
  | scheduled
  | active
  | complete
  | failed (r : FailReason)
  | missed
  deriving DecidableEq, Repr

/-- A job record (R157). -/
structure Job where
  id            : Nat
  service       : Nat
  trigger       : Trigger
  start         : NetSec
  stop          : NetSec
  padBefore     : Nat
  padAfter      : Nat
  buy           : Bool
  state         : JobState
  actualStart   : Option NetSec
  interruptions : Nat
  path          : Option PathNo
  startDue      : Bool
  startExpiry   : Option Count
  endExpiry     : Option Count
  graceExpiry   : Option Count
  deriving DecidableEq, Repr

/-- The Job Scheduler (R156). -/
structure Jobs where
  list   : List Job
  lastId : Nat
  deriving DecidableEq, Repr

/-! ## Agent Links, Lead Role and Notices (R182 to R192) -/

/-- The twelve notice classes, in the order of their codes (R185). -/
inductive NoticeClass where
  | path | access | parental | purchase | guide | lineup | job | card | fault | time | power | lead
  deriving DecidableEq, Repr

/-- The target of a notice class (R191). -/
inductive Target where
  | agent (a : Agent)
  | lead
  | everyAgent
  deriving DecidableEq, Repr

/-- The notice map: one target for each class, in the order of the codes (R191). -/
abbrev NoticeMap := Vector Target 12

/-- A request in a link queue (R182). -/
structure Request where
  tag  : Nat
  code : Nat
  body : List Byte
  deriving DecidableEq, Repr

/-- What the part holds for each agent (R186). `waiting` says that the GRANT at the head of the queue
has been taken and waits for its VERIFY (R183). `transfer` is the count at which the transfer of a frame
began, while one is under way (R182). The notices stand in the order of their codes. -/
structure Link where
  up       : Bool
  queue    : List Request
  waiting  : Bool
  ready    : Bool
  disabled : Bool
  notices  : List NoticeClass
  transfer : Option Count
  deriving DecidableEq, Repr

/-- One value for each agent. -/
structure PerAgent (α : Type) where
  media   : α
  network : α
  panel   : α
  deriving DecidableEq, Repr

/-- The statuses of a reply (R184). -/
inductive Status where
  | ok | okClamped
  | full | badFrame | unknownRequest | notPermitted | disabled | notLead | badField
  | asleep | timeUnknown | timeHeld | ignored | rejected
  | noService | noInput | noEvent | noStaging | badLineup | tableFull
  | listFull | pinWrong | pinLocked | notForSale | tooLate | alreadyBought | noCredit | invalid
  | cardAbsent | cardBusy | cardTimeout | noBatch | badBatch
  | tooLong | conflict | noJob
  deriving DecidableEq, Repr

/-! ## Power States and the Stored Image (R170, R175, R176) -/

/-- The power states (R170). -/
inductive PowerState where
  | active | quiescing | standby | service
  deriving DecidableEq, Repr

/-- The Power Controller (R170). -/
structure Power where
  state : PowerState
  held  : Option Lineup
  deriving DecidableEq, Repr

/-- The five sections of the stored image (R175). -/
inductive Sect where
  | lineup | access | parental | jobs | settings
  deriving DecidableEq, Repr

/-- The contents of the stored image, section by section (R175). Records carry no timer, no in-batch
flag and no unstored job field. -/
structure Image where
  lineup       : Lineup
  tiers        : List Tier
  balance      : Nat
  purchases    : List PurchaseRecord
  profiles     : Vector Profile 4
  masterPin    : Pin
  startProfile : ProfileNo
  attempts     : Nat
  lockoutLeft  : Nat
  meters       : Vector Meter 5
  jobs         : Jobs
  zone         : Int
  source       : Source
  noticeMap    : NoticeMap
  disabled     : PerAgent Bool
  deriving DecidableEq, Repr

/-- The image block of the flash once a write has completed: header and contents (R175). -/
structure Flash where
  layoutVersion : Nat
  checksum      : Nat
  image         : Image
  deriving DecidableEq, Repr

/-- A write in progress: its start count, its timeout and the contents taken at its start (R178). -/
structure Write where
  start   : Count
  timeout : Count
  image   : Image
  deriving DecidableEq, Repr

/-- The outcome of the last write (R176). -/
inductive LastWrite where
  | none | done | failed
  deriving DecidableEq, Repr

/-- The Store Writer (R176) and the image block it drives: `flash` is none while the block holds no
complete image (never written, erased, or a write failed or under way). -/
structure Store where
  dirty       : List Sect
  dirtySince  : Option Count
  commitDelay : Option Count
  write       : Option Write
  loadGood    : Bool
  lastWrite   : LastWrite
  flash       : Option Flash
  deriving DecidableEq, Repr

/-! ## What the part sends -/

/-- What leaves the part: a reply on a link, a tune command, a signal or transaction to the card, a
packet on a stream output, the start of a write of the image. -/
inductive Sent where
  | reply (a : Agent) (linkTag : Nat) (status : Status) (body : List Byte)
  | tune (i : InputNo) (frequency modulation symbolRate sequence : Nat)
  | cardReset
  | cardSend (tag : Nat) (tx : Transaction)
  | cardClockStop
  | cardClockStart
  | packet (p : PathNo) (tag : Nat) (payload : List Byte)
  | flashWrite
  deriving DecidableEq, Repr

/-! ## The state -/

/-- The state of the part. -/
structure State where
  /-- the local count (R1) -/
  localCount  : Count
  /-- the Time Base (R2) -/
  time        : TimeBase
  /-- the active lineup with its version (R22) -/
  lineup      : Lineup
  /-- the staging lineup: none when CLOSED (R22) -/
  staging     : Option Lineup
  /-- the Guide Store (R38) -/
  guide       : Guide
  /-- the four carrier inputs (R53) -/
  inputs      : Vector CarrierInput 4
  /-- the claim queue, head first (R65) -/
  claimQueue  : List PathNo
  /-- the six stream paths (R70) -/
  paths       : Vector Path 6
  /-- the Access Unit (R95) -/
  access      : Access
  /-- the Card Link (R118) -/
  card        : CardLink
  /-- the Parental Unit (R140) -/
  parental    : Parental
  /-- the Job Scheduler (R156) -/
  jobs        : Jobs
  /-- the Power Controller (R170) -/
  power       : Power
  /-- the Store Writer and the flash block (R176) -/
  store       : Store
  /-- the agent links (R186) -/
  agents      : PerAgent Link
  /-- the lead (R186) -/
  lead        : Option Agent
  /-- the LEAD pending set (R186) -/
  leadNotices : List NoticeClass
  /-- the notice map (R191) -/
  noticeMap   : NoticeMap
  /-- the model's own: everything sent since the state was made, oldest first (log entry 4) -/
  sent        : List Sent
  /-- the model's own: paths whose gate the present action has still to evaluate (R86); empty between
  commands (log entry 5) -/
  gatesDue    : List PathNo
  /-- the model's own: the commands waiting to be taken, first in, first out (log entry 1) -/
  pending     : List Instr
  deriving DecidableEq, Repr

/-- Why the part stops with a fault. It has no constructor: the manual gives every command an effect,
an answer or a discarding in every state, so no command of this model faults (safe). -/
inductive Fault where
  deriving DecidableEq, Repr

/-- Why a command is refused by the model. -/
inductive Refusal where
  /-- a row of the opcode table that has no meaning yet; raised by `exec` alone (safe). No row is in
  this case now. -/
  | notModelled (mnemonic : String)
  deriving DecidableEq, Repr

/-! ## Values after power reset -/

/-- The default notice map (R191). -/
def defaultNoticeMap : NoticeMap :=
  #v[.agent .media, .agent .media, .agent .media, .agent .media, .agent .media, .agent .media,
    .agent .panel, .lead, .lead, .lead, .everyAgent, .lead]

/-- PIN 0000 (R140). -/
def pinZero : Pin := ⟨0, 0, 0, 0⟩

/-- The default fields of profiles 1..4 (R140). -/
def defaultProfile : Profile :=
  { ceiling := 7, blocked := [], skip := false, purchasePin := false, allowance := 1440,
    winStart := 0, winStop := 0, pin := pinZero }

/-- An input after power reset (R53). -/
def resetInput : CarrierInput :=
  { state := .free, carrier := none, holders := [], sequence := 0, tuneStart := 0,
    tuneTimeout := none, retune := none }

/-- An EMPTY key slot (R134). -/
def Slot.empty : Slot := ⟨none, none⟩

/-- A path after power reset or part reset (R70). -/
def resetPath : Path :=
  { state := .idle .reset, snapshot := none, lastService := none, heldInput := none,
    currentEvent := none, boundary := none, slotA := Slot.empty, slotB := Slot.empty,
    unlock := none, job := none, lastChange := 0 }

/-- A link after power reset whose reset line is released (R186). -/
def resetLink : Link :=
  { up := true, queue := [], waiting := false, ready := false, disabled := false, notices := [],
    transfer := none }

/-- The part right after a power reset that found a bad image (R179), with no card at the insertion
detect and all three reset lines released (log entries 6 and 7): the FAULT notice of the bad image
stands in the LEAD pending set, as in the manual's worked example 11.5. -/
def State.reset : State where
  localCount := 0
  time :=
    { state := .unset, baseL := 0, baseT := 0, rate := 65536, slew := 0, slewEnd := none,
      holdover := none, prevMark := none, source := .outOfBand, inBandInput := none, zone := 0 }
  lineup := { version := 0, carriers := [], services := [] }
  staging := none
  guide := { pool := [], sweepExpiry := 60000 }
  inputs := Vector.replicate 4 resetInput
  claimQueue := []
  paths := Vector.replicate 6 resetPath
  access := { tiers := [], balance := 0, purchases := [], batchOpen := false, batchNumber := 0 }
  card :=
    { state := .absent, resetExpiry := none, wakeExpiry := none, outstanding := [],
      resting := Vector.replicate 4 none, waiting := [], failures := 0, capture := none }
  parental :=
    { profiles := Vector.replicate 4 defaultProfile, masterPin := pinZero, startProfile := 0,
      active := 0, attempts := 0, lockout := none, meters := Vector.replicate 5 ⟨0, 0, 0⟩,
      run := none, minuteExpiry := none, lastRollover := none, rolloverExpiry := none,
      side := .none, edgeExpiry := none }
  jobs := { list := [], lastId := 0 }
  power := { state := .active, held := none }
  store :=
    { dirty := [.lineup, .access, .parental, .jobs, .settings], dirtySince := some 0,
      commitDelay := some 2000, write := none, loadGood := false, lastWrite := .none,
      flash := none }
  agents := ⟨resetLink, resetLink, resetLink⟩
  lead := none
  leadNotices := [.fault]
  noticeMap := defaultNoticeMap
  sent := []
  gatesDue := []
  pending := []

end Sys2Proof.Machine
end

