-- ==== Sys2Proof/Machine/Ops.lean ====
section
/-! DEFINITION. Named operations over the state: one setter per field of `State`, the indexed
registers (paths, inputs, links), network time as the Time Base gives it (R3, R5, R21), and small
list operations. Every later definition reads and writes the state through these. -/

namespace Sys2Proof.Machine

/-! ## Setters, one per field -/

def State.setCount (s : State) (x : Count) : State := { s with localCount := x }
def State.setTime (s : State) (x : TimeBase) : State := { s with time := x }
def State.setLineup (s : State) (x : Lineup) : State := { s with lineup := x }
def State.setStaging (s : State) (x : Option Lineup) : State := { s with staging := x }
def State.setGuide (s : State) (x : Guide) : State := { s with guide := x }
def State.setInputs (s : State) (x : Vector CarrierInput 4) : State := { s with inputs := x }
def State.setClaimQueue (s : State) (x : List PathNo) : State := { s with claimQueue := x }
def State.setPaths (s : State) (x : Vector Path 6) : State := { s with paths := x }
def State.setAccess (s : State) (x : Access) : State := { s with access := x }
def State.setCard (s : State) (x : CardLink) : State := { s with card := x }
def State.setParental (s : State) (x : Parental) : State := { s with parental := x }
def State.setJobs (s : State) (x : Jobs) : State := { s with jobs := x }
def State.setPower (s : State) (x : Power) : State := { s with power := x }
def State.setStore (s : State) (x : Store) : State := { s with store := x }
def State.setAgents (s : State) (x : PerAgent Link) : State := { s with agents := x }
def State.setLead (s : State) (x : Option Agent) : State := { s with lead := x }
def State.setLeadNotices (s : State) (x : List NoticeClass) : State := { s with leadNotices := x }
def State.setNoticeMap (s : State) (x : NoticeMap) : State := { s with noticeMap := x }
def State.setSent (s : State) (x : List Sent) : State := { s with sent := x }
def State.setGatesDue (s : State) (x : List PathNo) : State := { s with gatesDue := x }
def State.setPending (s : State) (x : List Instr) : State := { s with pending := x }

/-! ## Indexed registers -/

/-- The value of an agent. -/
def PerAgent.get {α : Type} (x : PerAgent α) : Agent → α
  | .media => x.media
  | .network => x.network
  | .panel => x.panel

/-- Gives an agent a value. -/
def PerAgent.put {α : Type} (x : PerAgent α) (a : Agent) (v : α) : PerAgent α :=
  match a with
  | .media => { x with media := v }
  | .network => { x with network := v }
  | .panel => { x with panel := v }

/-- The three agents in order of their numbers. -/
def allAgents : List Agent := [.media, .network, .panel]

/-- The four carrier inputs in order. -/
def allInputs : List InputNo := [0, 1, 2, 3]

/-- The six paths in order. -/
def allPaths : List PathNo := [0, 1, 2, 3, 4, 5]

/-- The view paths, MAIN and INSET (R70). -/
def viewPaths : List PathNo := [0, 1]

/-- The record paths (R70). -/
def recordPaths : List PathNo := [2, 3, 4, 5]

/-- Whether a path is a view path (R70). -/
def isView (p : PathNo) : Bool := decide (p.val < 2)

def State.link (s : State) (a : Agent) : Link := s.agents.get a
def State.setLink (s : State) (a : Agent) (x : Link) : State := s.setAgents (s.agents.put a x)

def State.path (s : State) (p : PathNo) : Path := s.paths.get p
def State.setPath (s : State) (p : PathNo) (x : Path) : State :=
  s.setPaths (s.paths.set p.val x p.isLt)

def State.input (s : State) (i : InputNo) : CarrierInput := s.inputs.get i
def State.setInput (s : State) (i : InputNo) (x : CarrierInput) : State :=
  s.setInputs (s.inputs.set i.val x i.isLt)

/-- The number of an agent, 1 to 3 by link (00_scope, "The agents"). -/
def agentNumber : Agent → Nat
  | .media => 1
  | .network => 2
  | .panel => 3

/-- The agent of a number. -/
def agentOf : Nat → Option Agent
  | 1 => some .media
  | 2 => some .network
  | 3 => some .panel
  | _ => none

/-- Sends something: it is appended to the log of what the part has sent. -/
def send (x : Sent) (s : State) : State := s.setSent (s.sent ++ [x])

/-! ## Lists -/

/-- Places `x` before the first entry it comes strictly before, so after every entry of equal key. -/
def insertBy {α : Type} (before : α → α → Bool) (x : α) : List α → List α
  | [] => [x]
  | y :: ys => if before x y then x :: y :: ys else y :: insertBy before x ys

/-- Applies an action to each entry of a list, first to last. -/
def forEach {α : Type} (xs : List α) (f : α → State → State) (s : State) : State :=
  xs.foldl (fun t x => f x t) s

/-- The smallest number of a list. -/
def leastOf : List Nat → Option Nat
  | [] => none
  | x :: xs =>
    match leastOf xs with
    | none => some x
    | some y => some (min x y)

/-! ## Network time (R3, R5, R21) -/

/-- The effective rate E (R3). -/
def effectiveRate (t : TimeBase) : Nat :=
  if 0 < t.slew then t.rate + 655 else if t.slew < 0 then t.rate - 655 else t.rate

/-- Network time T(L) at local count L (R3). -/
def netTimeAt (t : TimeBase) (l : Count) : NetMs :=
  t.baseT + (l - t.baseL) * effectiveRate t / 65536

/-- Whether the Time Base gives network time, that is, is SET or HOLDOVER (R3). -/
def State.timeKnown (s : State) : Bool := decide (s.time.state ≠ .unset)

/-- The present network time in milliseconds (R3). -/
def State.netMs (s : State) : NetMs := netTimeAt s.time s.localCount

/-- The present network second (R3). -/
def State.netSec (s : State) : NetSec := s.netMs / 1000

/-- Division rounding up. -/
def ceilDiv (a b : Nat) : Nat := (a + b - 1) / b

/-- The expiry count of a moment T* in network milliseconds (R5). -/
def State.expiryOf (s : State) (moment : Int) : Count :=
  if moment ≤ (s.netMs : Int) then s.localCount
  else s.time.baseL +
    ceilDiv ((moment - (s.time.baseT : Int)).toNat * 65536) (effectiveRate s.time)

/-- The expiry count of a moment given as a network second. -/
def State.expiryOfSec (s : State) (sec : Int) : Count := s.expiryOf (sec * 1000)

/-- The expiry count of a network second, or none while the Time Base is UNSET. -/
def State.expiryIfKnown (s : State) (sec : Int) : Option Count :=
  if s.timeKnown then some (s.expiryOfSec sec) else none

/-- Whether a held expiry has been reached. -/
def State.reached (s : State) : Option Count → Bool
  | none => false
  | some e => decide (e ≤ s.localCount)

/-- The present local second, floor(T / 1000) + 60 × zone (R21). -/
def State.localSec (s : State) : Int := (s.netSec : Int) + 60 * s.time.zone

/-- The present local day (R21). -/
def State.localDay (s : State) : Int := s.localSec / 86400

/-- The present local minute of day, 0..1439 (R21). -/
def State.minuteOfDay (s : State) : Nat := (s.localSec % 86400 / 60).toNat

/-! ## Gates an action has named (R86) -/

/-- A path that has a service, that is, is not IDLE or is leaving IDLE in the present action (R70). -/
def Path.hasService (x : Path) : Bool := x.snapshot.isSome

/-- Names the gate of a path for evaluation at the end of the action; a path named twice stands once
(R86). -/
def markGate (p : PathNo) (s : State) : State :=
  if p ∈ s.gatesDue then s else s.setGatesDue (s.gatesDue ++ [p])

/-- Names the gates of several paths. -/
def markGates (ps : List PathNo) (s : State) : State := forEach ps markGate s

/-- Names the gate of every path that has a service and meets a condition. -/
def markWhere (cond : PathNo → Path → Bool) (s : State) : State :=
  markGates (allPaths.filter fun p => (s.path p).hasService && cond p (s.path p)) s

/-- Names the gate of every view path that has a service. -/
def markViews (s : State) : State := markWhere (fun p _ => isView p) s

/-- Names the gate of every path whose service has the id. -/
def markService (sid : Nat) (s : State) : State :=
  markWhere (fun _ x => x.snapshot.any (fun v => v.id == sid)) s

end Sys2Proof.Machine
end

