-- ==== Sys2Proof/Machine/Operands.lean ====
section
/-! DEFINITION. The layout of request bodies, reply bodies and messages in bytes (R185; 00_scope,
"Byte order": most significant byte first), the status codes (R184) and the codes of enumerated
fields. -/

namespace Sys2Proof.Machine

/-! ## Numbers in bytes -/

/-- The number that bytes spell, most significant byte first. -/
def beNat (bs : List Byte) : Nat := bs.foldl (fun n b => n * 256 + b.toNat) 0

/-- A number in `w` bytes, most significant byte first; higher bits are cut. -/
def beBytes : Nat → Nat → List Byte
  | 0, _ => []
  | w + 1, n => BitVec.ofNat 8 (n / 256 ^ w) :: beBytes w n

def u8 (n : Nat) : List Byte := beBytes 1 n
def u16 (n : Nat) : List Byte := beBytes 2 n
def u32 (n : Nat) : List Byte := beBytes 4 n
def u64 (n : Nat) : List Byte := beBytes 8 n

/-- A signed number in eight bytes, two's complement (R185). -/
def s64 (i : Int) : List Byte := u64 (i % 2 ^ 64).toNat

/-- A signed number in two bytes, two's complement (R19, R185). -/
def s16 (i : Int) : List Byte := u16 (i % 2 ^ 16).toNat

/-- A flag: 0 for clear, 1 for set (R185). -/
def flagByte (b : Bool) : List Byte := u8 (if b then 1 else 0)

/-- A value that may be absent: the mark and the value, 0 when absent (R185). -/
def optBytes (w : Nat) : Option Nat → List Byte
  | none => u8 0 ++ beBytes w 0
  | some n => u8 1 ++ beBytes w n

/-- A list without a count of its own: its length in one byte, then its entries (R185). -/
def listBytes {α : Type} (f : α → List Byte) (xs : List α) : List Byte :=
  u8 xs.length ++ xs.flatMap f

/-- The bytes of as many whole records, first to last, as a room in bytes holds, with their number (log
entry 10). -/
def fitting : Nat → List (List Byte) → Nat × List Byte
  | _, [] => (0, [])
  | room, r :: rs =>
    if r.length ≤ room then
      let t := fitting (room - r.length) rs
      (t.1 + 1, r ++ t.2)
    else (0, [])

/-- The number that a signed two-byte field carries (R19). -/
def signed16 (n : Nat) : Int := if n < 32768 then n else (n : Int) - 65536

/-- Reads fields of the given widths off the front of a body; the rest comes with them. -/
def takeFields : List Nat → List Byte → Option (List Nat × List Byte)
  | [], bs => some ([], bs)
  | w :: ws, bs =>
    if bs.length < w then none
    else
      match takeFields ws (bs.drop w) with
      | none => none
      | some (ns, rest) => some (beNat (bs.take w) :: ns, rest)

/-- The fields of a body that consists of fields of the given widths and nothing more; none when the
body's length does not fit (R185). -/
def fields (ws : List Nat) (bs : List Byte) : Option (List Nat) :=
  match takeFields ws bs with
  | some (ns, []) => some ns
  | _ => none

/-- Reads `n` records one after another. -/
def takeMany {α : Type} (f : List Byte → Option (α × List Byte)) :
    Nat → List Byte → Option (List α × List Byte)
  | 0, bs => some ([], bs)
  | n + 1, bs =>
    match f bs with
    | none => none
    | some (x, rest) =>
      match takeMany f n rest with
      | none => none
      | some (xs, rest') => some (x :: xs, rest')

/-- Reads a list sent as a one-byte count and its entries (R185). -/
def takeList {α : Type} (f : List Byte → Option (α × List Byte)) (bs : List Byte) :
    Option (List α × List Byte) :=
  match takeFields [1] bs with
  | some ([n], rest) => takeMany f n rest
  | _ => none

/-- A flag byte as a Boolean; any other value is out of range. -/
def flagOf : Nat → Option Bool
  | 0 => some false
  | 1 => some true
  | _ => none

/-- Four digits as a PIN; a digit out of 0..9 is out of range (8.3). -/
def pinOf (a b c d : Nat) : Option Pin :=
  if a ≤ 9 ∧ b ≤ 9 ∧ c ≤ 9 ∧ d ≤ 9 then some ⟨a, b, c, d⟩ else none

/-- An ASCII letter (log entry 12). -/
def isLetter (b : Byte) : Bool :=
  decide ((65 ≤ b.toNat ∧ b.toNat ≤ 90) ∨ (97 ≤ b.toNat ∧ b.toNat ≤ 122))

/-! ## Codes of enumerated fields (R184, R185) -/

/-- The code of a status (R184). -/
def Status.code : Status → Nat
  | .ok => 0 | .okClamped => 1
  | .full => 2 | .badFrame => 3 | .unknownRequest => 4 | .notPermitted => 5 | .disabled => 6
  | .notLead => 7 | .badField => 8
  | .asleep => 9 | .timeUnknown => 10 | .timeHeld => 11 | .ignored => 12 | .rejected => 13
  | .noService => 14 | .noInput => 15 | .noEvent => 16 | .noStaging => 17 | .badLineup => 18
  | .tableFull => 19
  | .listFull => 20 | .pinWrong => 21 | .pinLocked => 22 | .notForSale => 23 | .tooLate => 24
  | .alreadyBought => 25 | .noCredit => 26 | .invalid => 27
  | .cardAbsent => 28 | .cardBusy => 29 | .cardTimeout => 30 | .noBatch => 31 | .badBatch => 32
  | .tooLong => 33 | .conflict => 34 | .noJob => 35

/-- The frame of a reply as it goes out: link tag, status code, body length, body (00_scope, "Request
and reply frames"). -/
def replyFrame (linkTag : Nat) (st : Status) (body : List Byte) : List Byte :=
  u8 linkTag ++ u8 st.code ++ u16 body.length ++ body

def ClockState.code : ClockState → Nat
  | .unset => 1 | .set => 2 | .holdover => 3

def Source.code : Source → Nat
  | .outOfBand => 1 | .inBand => 2

def InputState.code : InputState → Nat
  | .free => 1 | .tuning => 2 | .locked => 3 | .lost => 4

def IdleReason.code : IdleReason → Nat
  | .reset => 1 | .released => 2 | .serviceRemoved => 3 | .standby => 4 | .jobEnded => 5

def StallReason.code : StallReason → Nat
  | .inputTaken => 1 | .noSignal => 2

def AccessReason.code : AccessReason → Nat
  | .notEntitled => 1 | .tierExpired => 2 | .notPurchased => 3 | .noEvent => 4 | .timeUnknown => 5
  | .cardAbsent => 6

def BlockReason.code : BlockReason → Nat
  | .service => 1 | .rating => 2 | .window => 3 | .allowance => 4 | .timeUnknown => 5

/-- The code of a path's state, in the order of R70. -/
def PathState.code : PathState → Nat
  | .idle _ => 1 | .tuning => 2 | .acquiring => 3 | .presenting => 4 | .blocked _ => 5
  | .denied _ => 6 | .stalled _ => 7

/-- The code of a path's reason, in the order of its state's line of R71; absent in the other states. -/
def PathState.reasonCode : PathState → Option Nat
  | .idle r => some r.code
  | .blocked r => some r.code
  | .denied r => some r.code
  | .stalled r => some r.code
  | _ => none

/-- A path's state and reason in a reply. -/
def PathState.bytes (x : PathState) : List Byte := u8 x.code ++ optBytes 1 x.reasonCode

def CardState.code : CardState → Nat
  | .absent => 1 | .resetting => 2 | .ready => 3 | .idleClock => 4 | .waking => 5 | .faulted => 6

def CardFault.code : CardFault → Nat
  | .resetTimeout => 1 | .cardTimeout => 2 | .cardBusy => 3 | .unexpectedReply => 4

def WindowSide.code : WindowSide → Nat
  | .none => 1 | .inside => 2 | .outside => 3 | .unknown => 4

def FailReason.code : FailReason → Nat
  | .serviceRemoved => 1 | .cancelled => 2 | .eventGone => 3 | .conflict => 4 | .noCredit => 5
  | .listFull => 6
  | .access .notEntitled => 7 | .access .tierExpired => 8 | .access .notPurchased => 9
  | .access .noEvent => 10 | .access .cardAbsent => 11 | .access .timeUnknown => 12

def JobState.code : JobState → Nat
  | .scheduled => 1 | .active => 2 | .complete => 3 | .failed _ => 4 | .missed => 5

def JobState.reasonCode : JobState → Option Nat
  | .failed r => some r.code
  | _ => none

def PowerState.code : PowerState → Nat
  | .active => 1 | .quiescing => 2 | .standby => 3 | .service => 4

def Sect.code : Sect → Nat
  | .lineup => 1 | .access => 2 | .parental => 3 | .jobs => 4 | .settings => 5

def LastWrite.code : LastWrite → Nat
  | .none => 1 | .done => 2 | .failed => 3

def ComponentKind.code : ComponentKind → Nat
  | .video => 1 | .audio => 2 | .subtitle => 3 | .data => 4

def ComponentKind.ofCode : Nat → Option ComponentKind
  | 1 => some .video | 2 => some .audio | 3 => some .subtitle | 4 => some .data | _ => none

def Phase.code : Phase → Nat
  | .a => 1 | .b => 2

/-- The code of a notice class (R185). -/
def NoticeClass.code : NoticeClass → Nat
  | .path => 1 | .access => 2 | .parental => 3 | .purchase => 4 | .guide => 5 | .lineup => 6
  | .job => 7 | .card => 8 | .fault => 9 | .time => 10 | .power => 11 | .lead => 12

/-- The notice class of a code (R185). -/
def NoticeClass.ofCode : Nat → Option NoticeClass
  | 1 => some .path | 2 => some .access | 3 => some .parental | 4 => some .purchase
  | 5 => some .guide | 6 => some .lineup | 7 => some .job | 8 => some .card | 9 => some .fault
  | 10 => some .time | 11 => some .power | 12 => some .lead | _ => none

/-- The code of a target: an agent's number, or 4 for LEAD (R192). -/
def Target.code : Target → Nat
  | .agent a => agentNumber a
  | .lead => 4
  | .everyAgent => 5

/-- The target of a code (R192). -/
def Target.ofCode : Nat → Option Target
  | 4 => some .lead
  | n => (agentOf n).map .agent

/-- A set of classes in two bytes: bit c − 1 is set for each class of code c (R185). -/
def classSetBytes (cs : List NoticeClass) : List Byte :=
  u16 ((cs.map fun c => 2 ^ (c.code - 1)).foldl (· + ·) 0)

end Sys2Proof.Machine
end

