-- ==== Sys2Proof/Machine/Flags.lean ====
section
/-! DEFINITION. The flags the part raises: notice classes and pending sets, attention lines (R191),
eligibility and election of the lead (R189). -/

namespace Sys2Proof.Machine

/-- Adds a class to a pending set; a class already pending stays pending once (R191). The set is held
in the order of the codes. -/
def addNotice (c : NoticeClass) (l : List NoticeClass) : List NoticeClass :=
  if c ∈ l then l else insertBy (fun x y => decide (x.code < y.code)) c l

/-- The position of a class in the notice map. -/
def NoticeClass.idx (c : NoticeClass) : Fin 12 :=
  match c with
  | .path => 0 | .access => 1 | .parental => 2 | .purchase => 3 | .guide => 4 | .lineup => 5
  | .job => 6 | .card => 7 | .fault => 8 | .time => 9 | .power => 10 | .lead => 11

/-- The classes whose target the notice map can set: all but POWER (R191, R192). -/
def mappable : List NoticeClass :=
  [.path, .access, .parental, .purchase, .guide, .lineup, .job, .card, .fault, .time, .lead]

/-- The target the notice map holds for a class (R191). -/
def State.targetOf (s : State) (c : NoticeClass) : Target := s.noticeMap.get c.idx

/-- Adds a class to an agent's pending set when a condition on its link holds. -/
def addToAgent (cond : Link → Bool) (c : NoticeClass) (a : Agent) (s : State) : State :=
  let l := s.link a
  if cond l then s.setLink a { l with notices := addNotice c l.notices } else s

/-- Raises a notice class: the Notice Router marks it pending (R191). -/
def raise (c : NoticeClass) (s : State) : State :=
  if c = .power then forEach allAgents (addToAgent (fun l => l.up && !l.disabled) c) s
  else
    match s.targetOf c with
    | .agent a => addToAgent (fun l => !l.disabled) c a s
    | .lead => s.setLeadNotices (addNotice c s.leadNotices)
    | .everyAgent => s

/-- Whether the attention line of an agent is active (R191). -/
def attention (s : State) (a : Agent) : Bool :=
  (s.link a).up && (!(s.link a).notices.isEmpty || (s.lead == some a && !s.leadNotices.isEmpty))

/-- Whether an agent is eligible for the lead (R189). -/
def eligible (s : State) (a : Agent) : Bool :=
  (s.link a).up && (s.link a).ready && !(s.link a).disabled

/-- Holds an election: the lowest-numbered eligible agent, leaving out `out` at its own RESIGN, becomes
the lead, and LEAD is raised when the lead becomes an agent; when none is eligible the lead is absent
(R189). -/
def elect (out : Option Agent) (s : State) : State :=
  match allAgents.find? fun a => eligible s a && out != some a with
  | some a => raise .lead (s.setLead (some a))
  | none => s.setLead none

end Sys2Proof.Machine
end

