-- ==== Sys2Proof/Machine/Lookup.lean ====
section
/-! DEFINITION. What the Lineup Table and the Guide Store answer: the conditions on records (R23, R24,
R28, R29), the lineup lookups (R25, R75) and the guide lookups (R40, R41). -/

namespace Sys2Proof.Machine

/-! ## Conditions on lineup records -/

/-- A stream tag a service may use: 0..8190 other than the time stream tag 8001 (R24). -/
def tagOk (t : Nat) : Bool := decide (t ≤ 8190 ∧ t ≠ 8001)

/-- Whether no value stands twice in a list. -/
def allDistinct (xs : List Nat) : Bool := xs.all fun x => decide (xs.count x ≤ 1)

/-- The number of the first check that fails; each check is given with its number. -/
def firstFailing : List (Nat × Bool) → Option Nat
  | [] => none
  | (n, ok) :: rest => if ok then firstFailing rest else some n

/-- The first field of a carrier record that breaks its condition: 1 carrier id, 2 frequency,
3 modulation code, 4 symbol-rate code (R23, R28). -/
def carrierError (c : Carrier) : Option Nat :=
  firstFailing
    [(1, decide (1 ≤ c.id ∧ c.id ≤ 255)),
     (2, decide (50000 ≤ c.frequency ∧ c.frequency ≤ 1000000)),
     (3, decide (c.modulation ≤ 7)),
     (4, decide (c.symbolRate ≤ 15))]

/-- Whether a component list meets its condition: 1..8 entries, tags in range, none twice, a language
of three letters where there is one (R24). -/
def componentsOk (cs : List Component) : Bool :=
  decide (1 ≤ cs.length ∧ cs.length ≤ 8) && allDistinct (cs.map (·.tag)) &&
    cs.all fun c => tagOk c.tag &&
      (match c.language with
      | none => true
      | some l => decide (l.length = 3) && l.all isLetter)

/-- Whether the access class is one of FREE, TIER with a tier 0..255, EVENT (R24). -/
def accessOk : AccessClass → Bool
  | .tier t => decide (t ≤ 255)
  | _ => true

/-- Whether the key-message tag meets its condition (R24). -/
def keyTagOk (v : Service) : Bool :=
  match v.access, v.keyTag with
  | .free, none => true
  | .free, some _ => false
  | _, none => false
  | _, some t => tagOk t && !(v.components.any fun c => c.tag == t)

/-- The first field of a service record that breaks its condition, numbered in the order of R24. -/
def serviceError (v : Service) : Option Nat :=
  firstFailing
    [(1, decide (1 ≤ v.id ∧ v.id ≤ 65535)),
     (2, decide (1 ≤ v.channel ∧ v.channel ≤ 9999)),
     (3, decide (1 ≤ v.carrier ∧ v.carrier ≤ 255)),
     (4, decide (1 ≤ v.programme ∧ v.programme ≤ 65535)),
     (5, componentsOk v.components),
     (6, accessOk v.access),
     (7, keyTagOk v),
     (8, decide (v.rating ≤ 7))]

/-- The values that stand more than once in a list. -/
def repeated (xs : List Nat) : List Nat := xs.filter fun x => decide (1 < xs.count x)

/-- The check of a staging lineup that fails first, numbered in the order of R29, with the id it
reports; none when the lineup is valid. -/
def lineupFailure (l : Lineup) : Option (Nat × Nat) :=
  match leastOf (repeated (l.carriers.map (·.id))) with
  | some n => some (1, n)
  | none =>
  match leastOf (repeated (l.services.map (·.id))) with
  | some n => some (2, n)
  | none =>
  match leastOf (repeated (l.services.map (·.channel))) with
  | some n => some (3, n)
  | none =>
  match leastOf ((l.services.filter fun v =>
      !(l.carriers.any fun c => c.id == v.carrier)).map (·.id)) with
  | some n => some (4, n)
  | none => none

/-! ## Lookups in a lineup (R25) -/

def Lineup.service (l : Lineup) (sid : Nat) : Option Service :=
  l.services.find? fun v => v.id == sid

def Lineup.byChannel (l : Lineup) (ch : Nat) : Option Service :=
  l.services.find? fun v => v.channel == ch

def Lineup.carrier (l : Lineup) (cid : Nat) : Option Carrier :=
  l.carriers.find? fun c => c.id == cid

/-- The services in the order in which STEP PATH walks them UP from a start; without a start, from
below every channel (R75). The service at the start comes last of all. -/
def Lineup.walkUp (l : Lineup) : Option Nat → List Service
  | none => l.services
  | some ch =>
    (l.services.filter fun v => decide (ch < v.channel)) ++
      l.services.filter fun v => decide (v.channel ≤ ch)

/-- The services in the order in which STEP PATH walks them DOWN from a start; without a start, from
above every channel (R75). -/
def Lineup.walkDown (l : Lineup) : Option Nat → List Service
  | none => l.services.reverse
  | some ch =>
    (l.services.filter fun v => decide (v.channel < ch)).reverse ++
      (l.services.filter fun v => decide (ch ≤ v.channel)).reverse

/-! ## Lookups in the guide (R39 to R41) -/

/-- The end of an event, start + duration (R39). -/
def GuideEvent.stop (e : GuideEvent) : NetSec := e.start + e.duration

/-- Whether an event covers a network second (R39). -/
def GuideEvent.covers (e : GuideEvent) (t : NetSec) : Bool := decide (e.start ≤ t ∧ t < e.stop)

/-- Two events overlap when each starts before the other ends (R39). -/
def GuideEvent.overlaps (e f : GuideEvent) : Bool := decide (e.start < f.stop ∧ f.start < e.stop)

/-- The list of a service, in ascending order of start (R38). -/
def Guide.ofService (g : Guide) (sid : Nat) : List GuideEvent :=
  g.pool.filter fun e => e.service == sid

/-- The current event of a service at a network second (R40). -/
def Guide.current (g : Guide) (sid : Nat) (t : NetSec) : Option GuideEvent :=
  (g.ofService sid).find? fun e => e.covers t

/-- The next boundary of a service at a network second (R40). -/
def Guide.boundary (g : Guide) (sid : Nat) (t : NetSec) : Option NetSec :=
  match g.current sid t with
  | some e => some e.stop
  | none => leastOf (((g.ofService sid).map (·.start)).filter fun b => decide (t < b))

/-- The event lookup by service id and event id (R41). -/
def Guide.event (g : Guide) (sid eid : Nat) : Option GuideEvent :=
  (g.ofService sid).find? fun e => e.id == eid

end Sys2Proof.Machine
end

