-- ==== Sys2Proof/Machine/Store.lean ====
section
/-! DEFINITION. The stored image (R175), what a good image is, the beginning of a write (R178) and the
marking of the image as dirty (R177). -/

namespace Sys2Proof.Machine

/-! ## The meter as it stands now (R150, R151) -/

/-- The milliseconds a meter's partial stands at now: counted to the present count for the profile that
is running, unless its used minutes are 1440 (R151). At the very count of the minute expiry, before it is taken,
that is 60,000 (log entry 33). -/
def partialNow (s : State) (n : ProfileNo) : Nat :=
  let m := s.parental.meters.get n
  match s.parental.run with
  | some l => if s.parental.active = n ∧ m.used < 1440 then m.partialMs + (s.localCount - l)
      else m.partialMs
  | none => m.partialMs

/-! ## Contents of the image -/

/-- A job record with its stored fields alone (R157). -/
def Job.stored (j : Job) : Job :=
  { j with path := none, startDue := false, startExpiry := none, endExpiry := none,
           graceExpiry := none }

/-- The contents a write takes at the present count (R175, R178): the lockout remaining and a running
meter's partial are those of this count. A write at the very count of the minute expiry, before it is taken,
holds a partial of 60,000 (log entry 33). -/
def imageOf (s : State) : Image :=
  { lineup := s.lineup
    tiers := s.access.tiers.map fun t => { t with timer := none }
    balance := s.access.balance
    purchases := s.access.purchases.map fun r => { r with inBatch := false, timer := none }
    profiles := s.parental.profiles
    masterPin := s.parental.masterPin
    startProfile := s.parental.startProfile
    attempts := s.parental.attempts
    lockoutLeft :=
      match s.parental.lockout with
      | none => 0
      | some e => e - s.localCount
    meters := Vector.ofFn fun n =>
      { s.parental.meters.get n with partialMs := partialNow s n }
    jobs := { s.jobs with list := s.jobs.list.map Job.stored }
    zone := s.time.zone
    source := s.time.source
    noticeMap := s.noticeMap
    disabled := ⟨s.agents.media.disabled, s.agents.network.disabled, s.agents.panel.disabled⟩ }

/-! ## The image in bytes (log entry 9) -/

def Component.bytes (c : Component) : List Byte :=
  u8 c.kind.code ++ u16 c.tag ++
    (match c.language with
    | none => [0, 0, 0, 0]
    | some l => u8 1 ++ l)

def AccessClass.bytes : AccessClass → List Byte
  | .free => [1, 0]
  | .tier t => u8 2 ++ u8 t
  | .event => [3, 0]

def Carrier.bytes (c : Carrier) : List Byte :=
  u8 c.id ++ u32 c.frequency ++ u8 c.modulation ++ u8 c.symbolRate

def Service.bytes (v : Service) : List Byte :=
  u16 v.id ++ u16 v.channel ++ u8 v.carrier ++ u16 v.programme ++
    listBytes Component.bytes v.components ++ v.access.bytes ++ optBytes 2 v.keyTag ++
    u8 v.rating ++ flagByte v.hidden

def Tier.bytes (t : Tier) : List Byte := u8 t.tier ++ optBytes 4 t.expiry

def Pin.bytes (p : Pin) : List Byte := u8 p.d1 ++ u8 p.d2 ++ u8 p.d3 ++ u8 p.d4

/-- The fields of a profile but its PIN. -/
def Profile.openBytes (p : Profile) : List Byte :=
  u8 p.ceiling ++ listBytes u16 p.blocked ++ flagByte p.skip ++ flagByte p.purchasePin ++
    u16 p.allowance ++ u16 p.winStart ++ u16 p.winStop

def Trigger.bytes : Trigger → List Byte
  | .time => [1, 0, 0]
  | .event e => u8 2 ++ u16 e

/-- The stored fields of a job record (R157). Its start, end and actual start take four bytes, cut to 32 bits: log
entries 9 and 10, the model's choice. -/
def Job.storedBytes (j : Job) : List Byte :=
  u8 j.id ++ u16 j.service ++ j.trigger.bytes ++ u32 j.start ++ u32 j.stop ++ u16 j.padBefore ++
    u16 j.padAfter ++ flagByte j.buy ++ u8 j.state.code ++ optBytes 1 j.state.reasonCode ++
    optBytes 4 j.actualStart ++ u16 j.interruptions

/-- Every byte of the image other than the checksum field: the layout version, then the sections in the
order of R175, laid out as R185 lays out bodies (log entry 9), network seconds in four bytes, cut to 32 bits. -/
def Image.bytes (layoutVersion : Nat) (m : Image) : List Byte :=
  u8 layoutVersion ++
  u16 m.lineup.version ++ listBytes Carrier.bytes m.lineup.carriers ++
  u16 m.lineup.services.length ++ m.lineup.services.flatMap Service.bytes ++
  listBytes Tier.bytes m.tiers ++ u32 m.balance ++
  listBytes (fun r => u16 r.service ++ u16 r.event ++ u32 r.start ++ u32 r.stop ++ u16 r.price ++
    u32 r.time ++ flagByte r.granted ++ flagByte r.reported) m.purchases ++
  m.profiles.toList.flatMap (fun p => p.openBytes ++ p.pin.bytes) ++ m.masterPin.bytes ++
  u8 m.startProfile.val ++ u8 m.attempts ++ u64 m.lockoutLeft ++
  m.meters.toList.flatMap (fun x => u16 x.used ++ u16 x.partialMs ++ u16 x.extension) ++
  listBytes Job.storedBytes m.jobs.list ++ u8 m.jobs.lastId ++
  s16 m.zone ++ u8 m.source.code ++ m.noticeMap.toList.flatMap (fun t => u8 t.code) ++
  flagByte m.disabled.media ++ flagByte m.disabled.network ++ flagByte m.disabled.panel

/-- One step of the checksum: a byte is added as an 8-bit value, and a carry out of the sixteenth bit
is added back into the lowest bit (R175). -/
def addOnesComplement (sum : Nat) (b : Byte) : Nat :=
  let t := sum + b.toNat
  if t < 65536 then t else t - 65536 + 1

/-- The 16-bit ones'-complement sum of bytes (R175). -/
def checksumOf (bs : List Byte) : Nat := bs.foldl addOnesComplement 0

/-- The image block a completed write leaves: layout version 1, the contents and their checksum (R175). -/
def flashOf (m : Image) : Flash := ⟨1, checksumOf (m.bytes 1), m⟩

/-! ## Ranges of the items of an image -/

/-- Whether a list is in ascending order of a key, each key once. -/
def ascending {α : Type} (key : α → Nat) : List α → Bool
  | x :: y :: rest => decide (key x < key y) && ascending key (y :: rest)
  | _ => true

def lineupInRange (l : Lineup) : Bool :=
  decide (l.version ≤ 65535) && decide (l.carriers.length ≤ 96) &&
    decide (l.services.length ≤ 768) && l.carriers.all (fun c => (carrierError c).isNone) &&
    l.services.all (fun v => (serviceError v).isNone) && (lineupFailure l).isNone &&
    ascending Carrier.id l.carriers && ascending Service.channel l.services

/-- A network second as a record holds it, 0..4,294,967,295 (R96). -/
def secInRange (t : NetSec) : Bool := decide (t ≤ 4294967295)

def pinInRange (p : Pin) : Bool := decide (p.d1 ≤ 9 ∧ p.d2 ≤ 9 ∧ p.d3 ≤ 9 ∧ p.d4 ≤ 9)

def profileInRange (p : Profile) : Bool :=
  decide (p.ceiling ≤ 7) && decide (p.blocked.length ≤ 16) && allDistinct p.blocked &&
    p.blocked.all (fun x => decide (1 ≤ x ∧ x ≤ 65535)) && decide (p.allowance ≤ 1440) &&
    decide (p.winStart ≤ 1439 ∧ p.winStop ≤ 1439) && pinInRange p.pin

def meterInRange (m : Meter) : Bool :=
  decide (m.used ≤ 1440 ∧ m.partialMs ≤ 59999 ∧ m.extension ≤ 1440)

def triggerInRange : Trigger → Bool
  | .time => true
  | .event e => decide (e ≤ 65535)

def jobInRange (j : Job) : Bool :=
  decide (1 ≤ j.id ∧ j.id ≤ 255) && decide (1 ≤ j.service ∧ j.service ≤ 65535) &&
    triggerInRange j.trigger && decide (j.padBefore ≤ 1800 ∧ j.padAfter ≤ 1800) &&
    decide (j.interruptions ≤ 65535)

/-- Whether every item of an image lies within the range its owner's chapter gives (R175). -/
def imageInRange (m : Image) : Bool :=
  lineupInRange m.lineup &&
    decide (m.tiers.length ≤ 64) && ascending Tier.tier m.tiers &&
    m.tiers.all (fun t => decide (t.tier ≤ 255) && t.expiry.all secInRange) &&
    decide (m.balance ≤ 1000000) && decide (m.purchases.length ≤ 64) &&
    m.purchases.all (fun r => decide (1 ≤ r.service ∧ r.service ≤ 65535) &&
      decide (r.event ≤ 65535) && decide (r.price ≤ 65535) &&
      decide ((m.purchases.countP fun q => q.service == r.service && q.event == r.event) ≤ 1)) &&
    m.profiles.toList.all profileInRange && pinInRange m.masterPin && decide (m.attempts ≤ 2) &&
    decide (m.lockoutLeft ≤ 900000) && m.meters.toList.all meterInRange &&
    decide (m.jobs.list.length ≤ 32) && m.jobs.list.all jobInRange &&
    allDistinct (m.jobs.list.map (·.id)) && decide (m.jobs.lastId ≤ 255) &&
    decide (-720 ≤ m.zone ∧ m.zone ≤ 840) &&
    (m.noticeMap.get NoticeClass.power.idx == .everyAgent) &&
    mappable.all (fun c => m.noticeMap.get c.idx != .everyAgent)

/-- The contents of the block when the image on it is good: layout version 1, the sum computed over it
equal to the checksum it carries, every item in range (R175). -/
def goodImage : Option Flash → Option Image
  | none => none
  | some f =>
    if f.layoutVersion = 1 ∧ f.checksum = checksumOf (f.image.bytes f.layoutVersion) ∧
        imageInRange f.image = true then some f.image else none

/-! ## Writing and marking (R177, R178) -/

/-- Begins a write at the present count: its contents are taken whole, the dirty set and dirty since
are emptied, the timeout is set 10,000 ms ahead, and the image block is erased (R178). -/
def beginWrite (s : State) : State :=
  let w : Write := ⟨s.localCount, s.localCount + 10000, imageOf s⟩
  send .flashWrite
    (s.setStore
      { s.store with dirty := [], dirtySince := none, write := some w, flash := none })

/-- Adds a section to the dirty set, held in the order of R175 (log entry 10). -/
def addSect (x : Sect) (l : List Sect) : List Sect :=
  if x ∈ l then l else insertBy (fun a b => decide (a.code < b.code)) x l

/-- Marks the stored image dirty for a change of an item of a section (R177). In QUIESCING with no
write in progress a write begins at once; with one in progress the section waits; in the other power
states the commit delay is set. -/
def markDirty (x : Sect) (s : State) : State :=
  let since := s.store.dirtySince.getD s.localCount
  let st := { s.store with dirty := addSect x s.store.dirty, dirtySince := some since }
  match s.power.state, s.store.write with
  | .quiescing, none => beginWrite (s.setStore st)
  | .quiescing, some _ => s.setStore st
  | _, _ =>
    s.setStore { st with commitDelay := some (min (s.localCount + 2000) (since + 10000)) }

end Sys2Proof.Machine
end

