-- ==== Sys2Proof/Machine/ParentalOps.lean ====
section
/-! DEFINITION. What the Parental Unit does for the other blocks and for its own requests: the PIN check
and lockout (R142), the parental verdict (R149), the allowance meter (R150, R151), windows (R152) and
day rollover (R154). -/

namespace Sys2Proof.Machine

/-- Updates the Parental Unit. -/
def State.onParental (s : State) (f : Parental → Parental) : State := s.setParental (f s.parental)

/-! ## Profiles (R141) -/

/-- Profile 0, OPEN: its fields are fixed and its PIN is the master PIN (R141). -/
def openProfile (master : Pin) : Profile := { defaultProfile with pin := master }

/-- The fields of a profile (R141). -/
def Parental.profile (u : Parental) (n : ProfileNo) : Profile :=
  match n with
  | 0 => openProfile u.masterPin
  | 1 => u.profiles.get 0
  | 2 => u.profiles.get 1
  | 3 => u.profiles.get 2
  | 4 => u.profiles.get 3

/-- The fields of the active profile. -/
def Parental.activeProfile (u : Parental) : Profile := u.profile u.active

/-- The meter of the active profile. -/
def Parental.activeMeter (u : Parental) : Meter := u.meters.get u.active

/-- Sets the meter of a profile. -/
def Parental.setMeter (u : Parental) (n : ProfileNo) (m : Meter) : Parental :=
  { u with meters := u.meters.set n.val m n.isLt }

/-- The allowance plus extension of a profile (R149). -/
def Parental.allowed (u : Parental) (n : ProfileNo) : Nat :=
  (u.profile n).allowance + (u.meters.get n).extension

/-- A profile has a window unless its start equals its end (R141). -/
def Profile.hasWindow (p : Profile) : Bool := decide (p.winStart ≠ p.winStop)

/-- Whether a minute lies inside a window of start `a` and end `b` (R149). -/
def insideWindow (a b m : Nat) : Bool :=
  if a < b then decide (a ≤ m ∧ m < b) else decide (a ≤ m ∨ m < b)

/-! ## The PIN check (R142) -/

/-- The answer of the PIN check (R142). -/
inductive PinAnswer where
  | passed
  | wrong (triesLeft : Nat)
  | locked (ms : Nat)
  deriving DecidableEq, Repr

/-- The PINs accepted for a profile: the profile's own or the master PIN (R142). -/
def acceptedFor (u : Parental) (n : ProfileNo) : List Pin := [(u.profile n).pin, u.masterPin]

/-- The PIN check: judges a PIN against the accepted ones, counting wrong ones and starting a lockout
at the third (R142). -/
def pinCheck (given : Pin) (accepted : List Pin) (s : State) : PinAnswer × State :=
  let u := s.parental
  match u.lockout with
  | some e => (.locked (e - s.localCount), s)
  | none =>
    if given ∈ accepted then
      if 0 < u.attempts then (.passed, markDirty .parental (s.setParental { u with attempts := 0 }))
      else (.passed, s)
    else if u.attempts + 1 < 3 then
      (.wrong (3 - (u.attempts + 1)),
        markDirty .parental (s.setParental { u with attempts := u.attempts + 1 }))
    else
      (.wrong 0,
        raise .parental (markDirty .parental
          (s.setParental { u with attempts := 0, lockout := some (s.localCount + 900000) })))

/-- The status and reply body of a failed PIN check: tries left for PIN_WRONG, with the ms of lockout
when none is left, and ms of lockout for PIN_LOCKED (R142; log entry 10). -/
def PinAnswer.refusal : PinAnswer → Option (Status × List Byte)
  | .passed => none
  | .wrong 0 => some (.pinWrong, u8 0 ++ u64 900000)
  | .wrong (n + 1) => some (.pinWrong, u8 (n + 1))
  | .locked ms => some (.pinLocked, u64 ms)

/-! ## The parental verdict (R149) -/

/-- Whether an unlock applies: its scope names the service and the current event's id, or NO_EVENT with
no current event (R149). -/
def unlockApplies (x : Path) (sid : Nat) : Bool :=
  match x.unlock with
  | none => false
  | some u => u.service == sid && u.event == x.currentEvent.map (·.id)

/-- The rating to judge: that of the current event, or the snapshot's default rating when the event has
none or there is no current event (R84, R149). -/
def ratingToJudge (s : State) (x : Path) (v : Service) : Nat :=
  match x.currentEvent with
  | none => v.rating
  | some c => ((s.guide.event v.id c.id).bind (·.rating)).getD v.rating

/-- The parental verdict of a view path: none when passed, else the reason (R149). -/
def parentalVerdict (s : State) (x : Path) (v : Service) : Option BlockReason :=
  let u := s.parental
  let p := u.activeProfile
  let free := unlockApplies x v.id
  if v.id ∈ p.blocked ∧ free = false then some .service
  else if p.ceiling < ratingToJudge s x v ∧ free = false then some .rating
  else if p.hasWindow = true ∧ s.timeKnown = false then some .timeUnknown
  else if p.hasWindow = true ∧ insideWindow p.winStart p.winStop s.minuteOfDay = false then
    some .window
  else if u.allowed u.active < 1440 ∧ u.allowed u.active ≤ u.activeMeter.used then some .allowance
  else none

/-! ## The allowance meter (R150, R151) -/

/-- Adds a used minute to the running profile, whose partial becomes 0; when the allowance is then
reached the gates of the view paths are named (R150). -/
def addMinute (s : State) : State :=
  let u := s.parental
  let m := u.activeMeter
  let m' : Meter := { m with used := m.used + 1, partialMs := 0 }
  let t := markDirty .parental (s.setParental (u.setMeter u.active m'))
  if m'.used = u.allowed u.active ∧ u.allowed u.active < 1440 then markViews t else t

/-- Opens a meter run for the active profile at the present count (R151, "Starting"). -/
def startMeter (s : State) : State :=
  s.onParental fun u =>
    { u with
      run := some s.localCount
      minuteExpiry :=
        if u.activeMeter.used = 1440 then none
        else some (s.localCount + 60000 - u.activeMeter.partialMs) }

/-- Closes the meter run at the present count; a partial of 60,000 adds the minute (R151, "Stopping"). -/
def stopMeter (s : State) : State :=
  match s.parental.run with
  | none => s
  | some _ =>
    let u := s.parental
    let ms := partialNow s u.active
    let t := s.setParental
      { u.setMeter u.active { u.activeMeter with partialMs := ms } with
        run := none, minuteExpiry := none }
    if 60000 ≤ ms then addMinute t else t

/-! ## Windows (R152) -/

/-- The window side of the active profile at the present minute (R152). -/
def judgedSide (s : State) : WindowSide :=
  let p := s.parental.activeProfile
  if p.hasWindow = false then .none
  else if s.timeKnown = false then .unknown
  else if insideWindow p.winStart p.winStop s.minuteOfDay then .inside
  else .outside

/-- The first local second after the present one at which the minute of day becomes `m`, counted on
from the present day's midnight (R152). -/
def nextMinute (s : State) (m : Nat) : Int :=
  let t := s.localDay * 86400 + 60 * (m : Int)
  if s.localSec < t then t else t + 86400

/-- The edge expiry for the side judged (R152). -/
def judgedEdge (s : State) : Option Count :=
  let p := s.parental.activeProfile
  match judgedSide s with
  | .none => none
  | .unknown => none
  | _ =>
    some (s.expiryOfSec
      (min (nextMinute s p.winStart) (nextMinute s p.winStop) - 60 * s.time.zone))

/-- Judges the window side again and sets the edge expiry again; when the side differs from the one
held, the gates of the view paths are named (R152). -/
def judgeWindow (s : State) : State :=
  let t := s.onParental fun u => { u with side := judgedSide s, edgeExpiry := judgedEdge s }
  if judgedSide s = s.parental.side then t else markViews t

/-! ## Day rollover (R154) -/

/-- The rollover expiry for a last rollover day d: the count at which network time reaches the first
moment of local day d + 1 (R154). -/
def rolloverExpiryFor (s : State) (d : Int) : Option Count :=
  some (s.expiryOfSec ((d + 1) * 86400 - 60 * s.time.zone))

/-- Recomputes the rollover expiry while the last rollover day is present (R153, R154). -/
def setRollover (s : State) : State :=
  s.onParental fun u =>
    { u with rolloverExpiry :=
        match u.lastRollover with
        | none => none
        | some d => if s.timeKnown then rolloverExpiryFor s d else none }

/-- Carries out a rollover whole (R154). -/
def rollover (s : State) : State :=
  let running := s.parental.run.isSome
  let s := stopMeter s
  let s := s.onParental fun u =>
    { u with meters := Vector.replicate 5 ⟨0, 0, 0⟩, lastRollover := some s.localDay }
  let s := setRollover s
  let s := if running then startMeter s else s
  markViews (raise .parental (markDirty .parental s))

/-- Takes a rollover when the present local day is greater than the last rollover day (R154). -/
def rolloverIfDue (s : State) : State :=
  match s.parental.lastRollover with
  | some d => if s.timeKnown = true ∧ d < s.localDay then rollover s else setRollover s
  | none => s

end Sys2Proof.Machine
end

