-- ==== Sys2Proof/Machine/AccessOps.lean ====
section
/-! DEFINITION. What the Access Unit does for the other blocks: the access test (R98), the requirement
test (R99), tier and purchase records with their expiries (R97, R102), the debit of a purchase (R105)
and the closing of the report batch (R116). -/

namespace Sys2Proof.Machine

/-- Updates the Access Unit. -/
def State.onAccess (s : State) (f : Access → Access) : State := s.setAccess (f s.access)

/-! ## The two tests -/

def Access.tier (u : Access) (t : Nat) : Option Tier := u.tiers.find? fun r => r.tier == t

def Access.bought (u : Access) (sid eid : Nat) : Option PurchaseRecord :=
  u.purchases.find? fun r => r.service == sid && r.event == eid

/-- The card is ABSENT or FAULTED (R98). -/
def cardUnusable (s : State) : Bool :=
  decide (s.card.state = .absent ∨ s.card.state = .faulted)

/-- The checks 1 to 4 of a tier, shared by both tests (R98, R99). -/
def tierTest (s : State) (t : Nat) : Option AccessReason :=
  match s.access.tier t with
  | none => some .notEntitled
  | some r =>
    match r.expiry with
    | some e =>
      if s.timeKnown = false then some .timeUnknown
      else if e ≤ s.netSec then some .tierExpired
      else if cardUnusable s then some .cardAbsent else none
    | none => if cardUnusable s then some .cardAbsent else none

/-- The access test of a path with a service: none when passed, else the reason (R98). -/
def accessTest (s : State) (x : Path) (v : Service) : Option AccessReason :=
  match v.access with
  | .free => none
  | .tier t => tierTest s t
  | .event =>
    if s.timeKnown = false then some .timeUnknown
    else
      match x.currentEvent with
      | none => some .noEvent
      | some c =>
        if (s.access.bought v.id c.id).isNone then some .notPurchased
        else if cardUnusable s then some .cardAbsent else none

/-- The requirement test of a key message on a service: none when met, else the reason (R99). -/
def requirementTest (s : State) (sid : Nat) : Requirement → Option AccessReason
  | .tier t => tierTest s t
  | .event e =>
    if s.timeKnown = false then some .timeUnknown
    else if (s.access.bought sid e).isNone then some .notPurchased
    else if cardUnusable s then some .cardAbsent else none

/-! ## Tiers (R96, R97) -/

/-- Names the gates of the paths concerned by a change of some tiers (R96). -/
def markTiers (ts : List Nat) (s : State) : State :=
  markWhere (fun _ x => x.snapshot.any fun v =>
    match v.access with
    | .tier t => decide (t ∈ ts)
    | _ => false) s

/-- What every change of the tier table does (R96). -/
def tierChange (ts : List Nat) (s : State) : State :=
  markTiers ts (raise .access (markDirty .access s))

/-- The tier expiry of a record's expiry: held while the Time Base is SET or HOLDOVER (R97). -/
def tierTimer (s : State) (expiry : Option NetSec) : Option Count :=
  match expiry with
  | none => none
  | some e => s.expiryIfKnown e

/-- Whether a tier record's expiry is at or below the present network second. -/
def tierPassed (s : State) (r : Tier) : Bool :=
  s.timeKnown && r.expiry.any fun e => decide (e ≤ s.netSec)

/-- Recomputes the tier expiry of every record (R97). -/
def refreshTierTimers (s : State) : State :=
  s.onAccess fun u => { u with tiers := u.tiers.map fun r => { r with timer := tierTimer s r.expiry } }

/-- Removes at once every tier record whose expiry is at or below the present network second, as one
change, and recomputes the tier expiries of the others (R97). -/
def expireTiers (s : State) : State :=
  let gone := (s.access.tiers.filter (tierPassed s)).map (·.tier)
  let t := refreshTierTimers
    (s.onAccess fun u => { u with tiers := u.tiers.filter fun r => !tierPassed s r })
  if gone.isEmpty then t else tierChange gone t

/-! ## The purchase list (R101, R102) -/

/-- Whether a record's end is at or below the present network second (R102). -/
def recordEnded (s : State) (r : PurchaseRecord) : Bool :=
  s.timeKnown && decide (r.stop ≤ s.netSec)

/-- Whether a record is to be removed: reported or granted, and ended (R102). -/
def recordDone (s : State) (r : PurchaseRecord) : Bool :=
  (r.reported || r.granted) && recordEnded s r

/-- Removes the records that are done and meet a condition, as one change (R102). -/
def removeRecords (cond : PurchaseRecord → Bool) (s : State) : State :=
  let out := s.access.purchases.filter fun r => recordDone s r && cond r
  let t := s.onAccess fun u =>
    { u with purchases := u.purchases.filter fun r => !(recordDone s r && cond r) }
  if out.isEmpty then t
  else
    forEach (out.map (·.service)) markService (raise .purchase (markDirty .access t))

/-- Sets the end expiry of the records that lie ahead and takes it from those that have ended, whose
removal is judged before (R102). -/
def setEndTimers (s : State) : State :=
  s.onAccess fun u =>
    { u with purchases := u.purchases.map fun r =>
        { r with timer := if recordEnded s r then none else s.expiryIfKnown r.stop } }

/-- Recomputes the end expiries that are held (R102). -/
def refreshEndTimers (s : State) : State :=
  s.onAccess fun u =>
    { u with purchases := u.purchases.map fun r =>
        { r with timer := if r.timer.isSome then s.expiryIfKnown r.stop else none } }

/-- Appends a record at the tail of the list with its end expiry (R101, R102). -/
def appendRecord (r : PurchaseRecord) (s : State) : State :=
  s.onAccess fun u => { u with purchases := u.purchases ++ [{ r with timer := s.expiryIfKnown r.stop }] }

/-- The record of an event bought at the present network second (R105). -/
def boughtRecord (s : State) (sid : Nat) (e : GuideEvent) : PurchaseRecord :=
  { service := sid, event := e.id, start := e.start, stop := e.stop, price := e.price,
    time := s.netSec, granted := false, reported := false, inBatch := false, timer := none }

/-- Carries out a purchase: debit, record, end expiry, dirty mark, notice, and the gates of the paths on
the service (R105). -/
def applyPurchase (sid : Nat) (e : GuideEvent) (s : State) : State :=
  let t := s.onAccess fun u => { u with balance := u.balance - e.price }
  markService sid (raise .purchase (markDirty .access (appendRecord (boughtRecord s sid e) t)))

/-- The event of a service of class EVENT in the active lineup that the guide holds with a price above 0
(R103 order 5, R106 order 2). -/
def forSale (s : State) (sid eid : Nat) : Option GuideEvent :=
  match s.lineup.service sid with
  | some v => if v.access = .event then (s.guide.event sid eid).filter fun e => decide (0 < e.price)
      else none
  | none => none

/-- The answers of the buy at a job's start (R106). -/
inductive BuyAnswer where
  | alreadyBought | notForSale | tooLate | listFull | noCredit | bought
  deriving DecidableEq, Repr

/-- The buy at a job's start (R106). -/
def jobBuy (sid eid : Nat) (s : State) : BuyAnswer × State :=
  if (s.access.bought sid eid).isSome then (.alreadyBought, s)
  else
    match forSale s sid eid with
    | none => (.notForSale, s)
    | some e =>
      if e.stop ≤ s.netSec then (.tooLate, s)
      else if 64 ≤ s.access.purchases.length then (.listFull, s)
      else if s.access.balance < e.price then (.noCredit, s)
      else (.bought, applyPurchase sid e s)

/-! ## The report batch (R114 to R116) -/

/-- Closes the report batch without acknowledgement (R116). -/
def closeBatch (s : State) : State :=
  s.onAccess fun u =>
    { u with batchOpen := false, purchases := u.purchases.map fun r => { r with inBatch := false } }

/-- The number of records neither reported nor granted. -/
def Access.unreported (u : Access) : Nat :=
  u.purchases.countP fun r => !r.reported && !r.granted

end Sys2Proof.Machine
end

