-- ==== Sys2Proof/Machine/PathOps.lean ====
section
/-! DEFINITION. What a path does to itself: the notices of a change of its state (R72) with what they
hand to the Parental Unit (R150) and the Job Scheduler (R164), the cancelling of its unwraps and the
emptying of its slots (R134, R137), and the taking of a lookup (R89, R91). -/

namespace Sys2Proof.Machine

/-- Updates a path record. -/
def State.onPath (s : State) (p : PathNo) (f : Path → Path) : State := s.setPath p (f (s.path p))

/-- Updates the Card Link. -/
def State.onCard (s : State) (f : CardLink → CardLink) : State := s.setCard (f s.card)

/-! ## Jobs, as far as paths reach them -/

/-- Updates the job of an id. -/
def updateJob (id : Nat) (f : Job → Job) (s : State) : State :=
  s.setJobs { s.jobs with list := s.jobs.list.map fun j => if j.id = id then f j else j }

/-- The job of an id. -/
def State.job (s : State) (id : Nat) : Option Job := s.jobs.list.find? fun j => j.id == id

/-- What every change of a job's state, times, actual start or interruptions does (R157). -/
def jobChanged (s : State) : State := raise .job (markDirty .jobs s)

/-- Raises a job's interruptions by one, up to 65535 (R164). -/
def addInterruption (id : Nat) (s : State) : State :=
  jobChanged (updateJob id (fun j => { j with interruptions := min 65535 (j.interruptions + 1) }) s)

def PathState.isDenied : PathState → Bool
  | .denied _ => true
  | _ => false

def PathState.isStalled : PathState → Bool
  | .stalled _ => true
  | _ => false

/-- Whether a change of a record path's state counts as a stall for its job (R164). -/
def isStall (graceRuns : Bool) (old new : PathState) : Bool :=
  !old.isStalled && !old.isDenied &&
    (new == .stalled .noSignal || (new.isDenied && !graceRuns))

/-- Hands a change of a record path's state to the Job Scheduler (R72, R164). -/
def handToJob (p : PathNo) (old new : PathState) (s : State) : State :=
  match s.jobs.list.find? fun j => j.path == some p && j.state == .active with
  | none => s
  | some j => if isStall j.graceExpiry.isSome old new then addInterruption j.id s else s

/-! ## The state of a path (R72) -/

/-- Whether a view path is PRESENTING (R150). -/
def viewing (s : State) : Bool := viewPaths.any fun p => (s.path p).state == .presenting

/-- Starts or stops the meter as view paths enter or leave PRESENTING (R150). -/
def followMeter (before : Bool) (s : State) : State :=
  match before, viewing s with
  | false, true => startMeter s
  | true, false => stopMeter s
  | _, _ => s

/-- Gives a path a state and reason; a change raises its notices and is handed on (R72). -/
def setPathState (p : PathNo) (new : PathState) (s : State) : State :=
  let old := (s.path p).state
  if old = new then s
  else
    let before := viewing s
    let s := raise .path (s.onPath p fun x => { x with state := new })
    let s := if old.isDenied || new.isDenied then raise .access s else s
    if isView p then followMeter before s else handToJob p old new s

/-! ## Slots and unwraps (R134, R137) -/

/-- Whether a transaction is an UNWRAP of a path and of a phase of a list. -/
def isUnwrapOf (p : PathNo) (phs : List Phase) : Transaction → Bool
  | .unwrap q ph _ _ _ => decide (q = p ∧ ph ∈ phs)
  | .verify .. => false

/-- Cancels the UNWRAPs of a path and some phases: those waiting are removed, those outstanding are
marked stale (R137). -/
def cancelUnwraps (p : PathNo) (phs : List Phase) (s : State) : State :=
  s.onCard fun c =>
    { c with
      waiting := c.waiting.filter fun t => !isUnwrapOf p phs t
      outstanding := c.outstanding.map fun e =>
        if isUnwrapOf p phs e.tx then { e with stale := true } else e }

/-- Empties both key slots of a path, cancelling their UNWRAPs first (R134, R137). -/
def emptySlots (p : PathNo) (s : State) : State :=
  (cancelUnwraps p [.a, .b] s).onPath p fun x => { x with slotA := Slot.empty, slotB := Slot.empty }

/-- The slot of a phase. -/
def Path.slot (x : Path) : Phase → Slot
  | .a => x.slotA
  | .b => x.slotB

/-- Sets the slot of a phase. -/
def Path.setSlot (x : Path) (ph : Phase) (k : Slot) : Path :=
  match ph with
  | .a => { x with slotA := k }
  | .b => { x with slotB := k }

/-- The state of a slot, which follows from its items (R134): 1 EMPTY, 2 LOADING, 3 LOADED. -/
def Slot.stateCode (k : Slot) : Nat :=
  if k.loaded.isSome then 3 else if k.pending.isSome then 2 else 1

/-! ## Event tracking (R89, R91) -/

/-- Whether an unlock still matches a current event (R91). -/
def unlockKept (u : Unlock) (c : Option CurrentEvent) : Bool := u.event == c.map (·.id)

/-- Takes a lookup for a path: its current event and boundary timer, and the treatment of its unlock
(R89, R91). While the Time Base is UNSET both become absent. An event that keeps its id takes the start and end the
guide now gives it: log entry 36, the model's reading of the last sentence of R91 beside R89. -/
def takeLookup (p : PathNo) (s : State) : State :=
  match (s.path p).snapshot with
  | none => s
  | some v =>
    let ev := if s.timeKnown then s.guide.current v.id s.netSec else none
    let bd := if s.timeKnown then s.guide.boundary v.id s.netSec else none
    let c : Option CurrentEvent := ev.map fun e => ⟨e.id, e.start, e.stop⟩
    s.onPath p fun x =>
      { x with
        currentEvent := c
        boundary := bd.map fun b => ⟨b, s.expiryOfSec b⟩
        unlock := x.unlock.filter fun u => unlockKept u c }

end Sys2Proof.Machine
end

