-- ==== Sys2Proof/Machine/InputOps.lean ====
section
/-! DEFINITION. The Carrier Arbiter: tune commands (R54), the in-band input (R7), releases (R64), going
IDLE (R73), claims (R61) with pre-emption (R62), the claim queue (R65, R66), the end of a tune (R35)
and the telling of holders (R59). -/

namespace Sys2Proof.Machine

/-- Updates the record of an input. -/
def State.onInput (s : State) (i : InputNo) (f : CarrierInput → CarrierInput) : State :=
  s.setInput i (f (s.input i))

/-- The lowest-numbered LOCKED input (R7). -/
def lowestLocked (s : State) : Option InputNo :=
  allInputs.find? fun i => (s.input i).state == .locked

/-- Recomputes the in-band input; when it changes, a prev mark that records an in-band mark is cleared
(R7). -/
def recomputeInBand (s : State) : State :=
  let n := lowestLocked s
  if n = s.time.inBandInput then s
  else
    s.setTime
      { s.time with
        inBandInput := n
        prevMark := s.time.prevMark.filter fun m => m.source != .inBand }

/-! ## Tuning (R54) -/

/-- Sends one tune command for a carrier: the sequence advances, the tune start and carrier id are set
(R54). The parameters come from the active lineup. -/
def sendTune (i : InputNo) (c : Nat) (s : State) : State :=
  let seq := ((s.input i).sequence + 1) % 256
  let s1 := s.onInput i fun x =>
    { x with sequence := seq, tuneStart := s.localCount, carrier := some c }
  match s.lineup.carrier c with
  | some r => send (.tune i r.frequency r.modulation r.symbolRate seq) s1
  | none => s1

/-- A tune for a claim, for the service of the claim queue or for a commit: the input becomes TUNING
with a tune timeout, and any re-tune expiry is cancelled (R54). -/
def tuneInto (i : InputNo) (c : Nat) (s : State) : State :=
  recomputeInBand ((sendTune i c s).onInput i fun x =>
    { x with state := .tuning, tuneTimeout := some (s.localCount + 1500), retune := none })

/-! ## Release and going IDLE (R64, R73) -/

/-- Takes a path out of the claim queue (R65). -/
def leaveQueue (p : PathNo) (s : State) : State :=
  s.setClaimQueue (s.claimQueue.filter fun q => q != p)

/-- The record of an input that has lost its last holder (R64). -/
def freedInput (x : CarrierInput) : CarrierInput :=
  { x with state := .free, carrier := none, holders := [], tuneTimeout := none, retune := none }

/-- A path releases its input, which becomes FREE when no holder remains (R64). -/
def releaseInput (p : PathNo) (s : State) : State :=
  match (s.path p).heldInput with
  | none => s
  | some i =>
    let s1 := s.onPath p fun x => { x with heldInput := none }
    let rest := (s.input i).holders.filter fun q => q != p
    if rest.isEmpty then recomputeInBand (s1.onInput i freedInput)
    else s1.onInput i fun x => { x with holders := rest }

/-- Makes a path IDLE with a reason; a path already IDLE keeps the reason it had (R73). -/
def goIdle (p : PathNo) (r : IdleReason) (s : State) : State :=
  if (s.path p).hasService then
    let s := leaveQueue p (releaseInput p (emptySlots p s))
    let s := s.onPath p fun x =>
      { x with unlock := none, snapshot := none, currentEvent := none, boundary := none, job := none }
    setPathState p (.idle r) s
  else s

/-! ## The cases of a commit (R24, R33) -/

/-- The case of a path's snapshot against a lineup (R33). -/
inductive CommitCase where
  | removed
  | rerouted (v : Service)
  | rejudged (v : Service)
  | unchanged
  deriving DecidableEq, Repr

/-- Whether the routing fields of two service records are equal (R24). -/
def sameRouting (v w : Service) : Bool :=
  v.carrier == w.carrier && v.programme == w.programme && v.components == w.components &&
    v.keyTag == w.keyTag

/-- The case of a snapshot against a lineup (R33). -/
def commitCase (l : Lineup) (snap : Service) : CommitCase :=
  match l.service snap.id with
  | none => .removed
  | some v =>
    if sameRouting snap v = false then .rerouted v
    else if snap = v then .unchanged
    else .rejudged v

/-- Gives a path a new snapshot and names its gate. -/
def takeSnapshot (p : PathNo) (v : Service) (s : State) : State :=
  markGate p (s.onPath p fun x => { x with snapshot := some v })

/-- What a re-routed path does before any release or claim: its unwraps are cancelled and its slots
emptied, its unlock is dropped when the carrier id differs, and it takes the new snapshot (R33). -/
def reroute (p : PathNo) (snap v : Service) (s : State) : State :=
  let s := emptySlots p s
  let s := if snap.carrier = v.carrier then s else s.onPath p fun x => { x with unlock := none }
  takeSnapshot p v s

/-! ## Claims (R61, R62) -/

/-- The comparison of a path detached while TUNING: the case of R35 without a claim (R62, step 2). -/
def compareDetached (p : PathNo) (s : State) : State :=
  match (s.path p).snapshot with
  | none => s
  | some snap =>
    match commitCase s.lineup snap with
    | .removed => goIdle p .serviceRemoved s
    | .rerouted v => reroute p snap v s
    | .rejudged v => takeSnapshot p v s
    | .unchanged => s

/-- A path without an input becomes STALLED(INPUT_TAKEN) and enters the claim queue (R61 step 4, R62
step 3, R65). -/
def joinQueue (p : PathNo) (s : State) : State :=
  let s := setPathState p (.stalled .inputTaken) s
  markGate p (if p ∈ s.claimQueue then s else s.setClaimQueue (s.claimQueue ++ [p]))

/-- The input a record path's claim takes from viewing: one held by path 1 alone, else by path 0 alone,
else by both (R62). -/
def preemptible (s : State) : Option InputNo :=
  match allInputs.find? fun i => (s.input i).holders == [1] with
  | some i => some i
  | none =>
    match allInputs.find? fun i => (s.input i).holders == [0] with
    | some i => some i
    | none => allInputs.find? fun i => (s.input i).holders == [0, 1]

/-- Detaches one view holder of a pre-empted input (R62, steps 1 to 3). -/
def detach (p : PathNo) (s : State) : State :=
  let wasTuning := decide ((s.path p).state = .tuning)
  let s := s.onPath p fun x => { x with heldInput := none }
  let s := if wasTuning then compareDetached p s else s
  if (s.path p).hasService then joinQueue p s else s

/-- Gives an input to one path alone, tuned for its claim. -/
def giveInput (i : InputNo) (c : Nat) (p : PathNo) (s : State) : State :=
  let s := s.onPath p fun x => { x with heldInput := some i }
  markGate p (tuneInto i c (s.onInput i fun x => { x with holders := [p] }))

/-- A record path's claim takes an input from viewing (R62). -/
def preempt (p : PathNo) (c : Nat) (s : State) : State :=
  match preemptible s with
  | none => markGate p s
  | some i => giveInput i c p (forEach (s.input i).holders detach s)

/-- The input that has a carrier (R61, step 1). -/
def inputWith (s : State) (c : Nat) : Option InputNo :=
  allInputs.find? fun i => (s.input i).state != .free && (s.input i).carrier == some c

/-- The lowest-numbered FREE input (R61, step 2). -/
def lowestFree (s : State) : Option InputNo := allInputs.find? fun i => (s.input i).state == .free

/-- A path joins the holders of an input (R61, step 1). -/
def joinInput (i : InputNo) (p : PathNo) (s : State) : State :=
  let s := s.onPath p fun x => { x with heldInput := some i }
  markGate p (s.onInput i fun x =>
    { x with holders :=
        if p ∈ x.holders then x.holders else insertBy (fun a b => decide (a < b)) p x.holders })

/-- A path claims the carrier of its snapshot (R61). -/
def claim (p : PathNo) (s : State) : State :=
  match (s.path p).snapshot with
  | none => s
  | some v =>
    match inputWith s v.carrier with
    | some i => joinInput i p s
    | none =>
      match lowestFree s with
      | some i => giveInput i v.carrier p s
      | none => if isView p then joinQueue p s else preempt p v.carrier s

/-! ## The claim queue (R66) -/

/-- Serves the claim queue at most `n` times. -/
def serveQueueN : Nat → State → State
  | 0, s => s
  | n + 1, s =>
    match s.claimQueue with
    | [] => s
    | p :: rest =>
      match lowestFree s with
      | none => s
      | some _ => serveQueueN n (claim p (s.setClaimQueue rest))

/-- Serves the claim queue until it is empty or no input is FREE (R66). -/
def serveQueue (s : State) : State := serveQueueN s.claimQueue.length s

/-! ## The end of a tune and the telling of holders (R35, R59) -/

/-- The comparison a path makes at the end of its tune, its case taken singly with its own release or
claim (R35). -/
def compareAtTuneEnd (p : PathNo) (s : State) : State :=
  match (s.path p).snapshot with
  | none => s
  | some snap =>
    match commitCase s.lineup snap with
    | .removed => goIdle p .serviceRemoved s
    | .rerouted v =>
      let t := reroute p snap v s
      if snap.carrier = v.carrier then t else claim p (releaseInput p t)
    | .rejudged v => takeSnapshot p v s
    | .unchanged => s

/-- Tells a holder of a change of its input's state: a path whose tune has ended makes its comparison,
and its gate is named (R59). -/
def tellHolder (tuneEnded : Bool) (p : PathNo) (s : State) : State :=
  markGate p
    (if tuneEnded = true ∧ (s.path p).state = .tuning then compareAtTuneEnd p s else s)

/-- Changes the state of an input and tells the Time Base and every holder, in ascending path order
(R59). -/
def changeInput (i : InputNo) (f : CarrierInput → CarrierInput) (s : State) : State :=
  let wasTuning := decide ((s.input i).state = .tuning)
  let t := recomputeInBand (s.onInput i f)
  forEach (s.input i).holders (tellHolder wasTuning) t

/-- An input becomes LOCKED (R56). -/
def lockInput (i : InputNo) (s : State) : State :=
  changeInput i (fun x => { x with state := .locked, tuneTimeout := none, retune := none }) s

/-- An input becomes LOST with a re-tune expiry (R56). -/
def loseInput (i : InputNo) (s : State) : State :=
  changeInput i (fun x =>
    { x with state := .lost, tuneTimeout := none, retune := some (s.localCount + 5000) }) s

/-! ## The input check of a channel change (R63) -/

/-- Whether a channel change of a path to a carrier can be served (R63). -/
def changeServable (p : PathNo) (c : Nat) (s : State) : Bool :=
  (inputWith s c).isSome || (lowestFree s).isSome ||
    (match (s.path p).heldInput with
    | none => false
    | some i => (s.input i).holders == [p])

end Sys2Proof.Machine
end

