-- ==== Sys2Proof/Machine/GateOps.lean ====
section
/-! DEFINITION. The gate of a path: its verdict (R83, R84), what the verdict does to the slots (R85) and
the evaluation of every gate an action has named (R86). -/

namespace Sys2Proof.Machine

/-- The part of the verdict after order 1, on a LOCKED input (R83, orders 2 to 5). -/
def lockedVerdict (s : State) (p : PathNo) (x : Path) (v : Service) : PathState :=
  match accessTest s x v with
  | some r => .denied r
  | none =>
    match if isView p then parentalVerdict s x v else none with
    | some r => .blocked r
    | none =>
      if v.access ≠ .free ∧ x.slotA.loaded = none ∧ x.slotB.loaded = none then .acquiring
      else .presenting

/-- The verdict of a path with a service (R83). A held input is never FREE (R53); were it, the path
would stand as without an input. -/
def verdict (s : State) (p : PathNo) (x : Path) (v : Service) : PathState :=
  match x.heldInput with
  | none => .stalled .inputTaken
  | some i =>
    match (s.input i).state with
    | .free => .stalled .inputTaken
    | .tuning => .tuning
    | .lost => .stalled .noSignal
    | .locked => lockedVerdict s p x v

/-- Whether a verdict empties the path's slots (R85). -/
def emptiesSlots : PathState → Bool
  | .denied _ => true
  | .stalled .inputTaken => true
  | _ => false

/-- Evaluates the gate of a path; a path without a service is not evaluated (R82, R83, R85). -/
def gate (p : PathNo) (s : State) : State :=
  match (s.path p).snapshot with
  | none => s
  | some v =>
    let st := verdict s p (s.path p) v
    setPathState p st (if emptiesSlots st then emptySlots p s else s)

/-- Evaluates the gate of a path when the action has named it. -/
def gateIfDue (p : PathNo) (s : State) : State :=
  if p ∈ s.gatesDue then gate p (s.setGatesDue (s.gatesDue.filter fun q => q != p)) else s

/-- Evaluates the named gates once, in ascending path order. -/
def gatePass (s : State) : State := forEach allPaths gateIfDue s

/-- Evaluates every gate the action has named, in ascending path order (R86). A gate can name others
only by a meter that stops at the count of its minute (R151), so a second pass meets them all. -/
def evalGates (s : State) : State := gatePass (gatePass s)

end Sys2Proof.Machine
end

