-- ==== Sys2Proof/Machine/LinkOps.lean ====
section
/-! DEFINITION. Agent links: answering the request at the head of a queue (R182, R183) and the link reset
(R187). -/

namespace Sys2Proof.Machine

/-- Answers the request at the head of an agent's queue with a status and a body; the request leaves the
queue (R182, R183). -/
def reply (a : Agent) (st : Status) (body : List Byte) (s : State) : State :=
  match (s.link a).queue with
  | [] => s
  | r :: rest =>
    send (.reply a r.tag st body) (s.setLink a { s.link a with queue := rest, waiting := false })

/-- A VERIFY of an agent's link whose reply has been dropped goes on without it (R108, R187). -/
def dropReply (a : Agent) (t : Transaction) : Transaction :=
  match t with
  | .verify l tag m due => .verify l tag m (due && l != a)
  | .unwrap .. => t

/-- Drops the replies due to an agent for the VERIFYs at the Card Link. -/
def dropReplies (a : Agent) (s : State) : State :=
  s.onCard fun c =>
    { c with
      outstanding := c.outstanding.map fun e => { e with tx := dropReply a e.tx }
      waiting := c.waiting.map (dropReply a) }

/-- The count at which the transfer of a frame under way is loss of the link: 50 ms after its start (R182). -/
def Link.transferExpiry (l : Link) : Option Count := l.transfer.map fun c => c + 50

/-- The link reset of an agent (R187): queue, due replies and a transfer under way dropped, ready flag cleared; for the
network agent the report batch is closed (R116) and the staging lineup discarded (R32); an election
when it was the lead. `up` is the link state it leaves. -/
def linkReset (a : Agent) (up : Bool) (s : State) : State :=
  let s := s.setLink a
    { s.link a with up := up, queue := [], waiting := false, ready := false, transfer := none }
  let s := dropReplies a s
  let s := if a = .network then (closeBatch s).setStaging none else s
  if s.lead = some a then elect none s else s

end Sys2Proof.Machine
end

