-- ==== Sys2Proof/Machine/CardOps.lean ====
section
/-! DEFINITION. The Card Link: state changes (R120), submission and dispatch (R123), the ends of
transactions (R108 to R113, R138), failures (R129), the fault capture (R130) and key messages (R135,
R136). -/

namespace Sys2Proof.Machine

/-! ## The state of the card -/

/-- Whether a path carries a service that is not FREE. -/
def isPaid (x : Path) : Bool := x.snapshot.any fun v => decide (v.access ≠ .free)

/-- Gives the card a state; a change raises CARD and names the gate of every path whose service is not
FREE (R120). -/
def cardMove (new : CardState) (s : State) : State :=
  if s.card.state = new then s
  else markWhere (fun _ x => isPaid x) (raise .card (s.onCard fun c => { c with state := new }))

/-- Captures a fault: the first fills the capture and raises FAULT, a later one sets LOST (R130). -/
def captureFault (f : CardFault) (tag : Option Nat) (concern : Option (Origin × Bool)) (s : State) :
    State :=
  match s.card.capture with
  | some c => s.onCard fun k => { k with capture := some { c with lost := true } }
  | none =>
    raise .fault (s.onCard fun k =>
      { k with capture := some ⟨f, tag, concern, s.localCount, false⟩ })

/-- The origin of a transaction (R122). -/
def Transaction.origin : Transaction → Origin
  | .verify l tag _ _ => .verify l tag
  | .unwrap p ph _ _ _ => .unwrap p ph

def Transaction.isVerify : Transaction → Bool
  | .verify .. => true
  | .unwrap .. => false

/-- The number of VERIFYs outstanding or waiting (R172). -/
def verifyCount (s : State) : Nat :=
  (s.card.outstanding.countP fun e => e.tx.isVerify) + s.card.waiting.countP Transaction.isVerify

/-! ## Submission and dispatch (R123, R139) -/

/-- Restarts the card's clock: the card becomes WAKING with a wake expiry 50 ms ahead (R139). -/
def startWake (s : State) : State :=
  cardMove .waking (send .cardClockStart
    (s.onCard fun c => { c with wakeExpiry := some (s.localCount + 50) }))

/-- Signals a reset to the card, starting its clock first when that is stopped: it becomes RESETTING with a
reset expiry 500 ms ahead (R119, R132, R139). -/
def signalReset (s : State) : State :=
  let t := if s.card.state = .idleClock then send .cardClockStart s else s
  cardMove .resetting (send .cardReset
    (t.onCard fun c => { c with resetExpiry := some (s.localCount + 500), wakeExpiry := none }))

/-- Whether the waiting queue has room for a transaction (R123). -/
def queueHasRoom (s : State) : Bool := decide (s.card.waiting.length < 8)

/-- Appends a transaction at the tail of the waiting queue; in IDLE_CLOCK the card starts WAKING (R123). -/
def enqueueTx (t : Transaction) (s : State) : State :=
  let s1 := s.onCard fun c => { c with waiting := c.waiting ++ [t] }
  if s.card.state = .idleClock then startWake s1 else s1

/-- The four card tags in order. -/
def allTags : List (Fin 4) := [0, 1, 2, 3]

/-- The lowest tag that is free and not resting (R123). -/
def freeTag (c : CardLink) : Option (Fin 4) :=
  allTags.find? fun t => c.outstanding.all (fun e => e.tag != t.val) && (c.resting.get t).isNone

/-- Sends the transaction at the head of the waiting queue (R123). -/
def dispatchOne (s : State) : State :=
  match s.card.waiting, freeTag s.card with
  | t :: rest, some tag =>
    if s.card.state = .ready then
      let e : Entry :=
        { tag := tag.val, tx := t, sendCount := s.localCount,
          timeout := some (s.localCount + 400), resend := none, busy := 0, stale := false }
      send (.cardSend tag.val t)
        (s.onCard fun c => { c with waiting := rest, outstanding := c.outstanding ++ [e] })
    else s
  | _, _ => s

/-- Repeats an action. -/
def repeatN (f : State → State) : Nat → State → State
  | 0, s => s
  | n + 1, s => repeatN f n (f s)

/-- Dispatches the waiting queue until it is empty, no tag is free and unresting, or the card is not
READY (R123). -/
def dispatch (s : State) : State := repeatN dispatchOne s.card.waiting.length s

/-! ## Grant messages (R107 to R113) -/

/-- The kinds of grant with their fields (00_scope, "Grant message"). -/
inductive Grant where
  | tierAdd (tier : Nat) (expiry : Option NetSec)
  | tierRemove (tier : Nat)
  | creditAdd (amount : Nat)
  | eventGrant (service event start stop : Nat)
  | pinReset (pin : Pin)
  deriving DecidableEq, Repr

/-- The grant a message spells, or the field that breaks its form: 1 kind, 2 body length, 3 the
expiry-present byte, 4 amount, 5 service id, 6 event start, 7 a PIN digit (R107, log entry 11). -/
def grantOf (body : List Byte) : Except Nat Grant :=
  match takeFields [4, 1] body with
  | some ([_, kind], _) =>
    match kind with
    | 1 =>
      match fields [4, 1, 1, 1, 4, 16] body with
      | some [_, _, t, present, e, _] =>
        match flagOf present with
        | some b => .ok (.tierAdd t (if b then some e else none))
        | none => .error 3
      | _ => .error 2
    | 2 =>
      match fields [4, 1, 1, 16] body with
      | some [_, _, t, _] => .ok (.tierRemove t)
      | _ => .error 2
    | 3 =>
      match fields [4, 1, 4, 16] body with
      | some [_, _, n, _] => if 1 ≤ n ∧ n ≤ 1000000 then .ok (.creditAdd n) else .error 4
      | _ => .error 2
    | 4 =>
      match fields [4, 1, 2, 2, 4, 4, 16] body with
      | some [_, _, sid, eid, a, b, _] =>
        if sid = 0 then .error 5 else if a < b then .ok (.eventGrant sid eid a b) else .error 6
      | _ => .error 2
    | 5 =>
      match fields [4, 1, 1, 1, 1, 1, 16] body with
      | some [_, _, a, b, c, d, _] =>
        match pinOf a b c d with
        | some p => .ok (.pinReset p)
        | none => .error 7
      | _ => .error 2
    | _ => .error 1
  | _ => .error 2

/-- TIER ADD (R109): the outcome is REPLACED 1, ADDED 2 or EXPIRED 3 (log entry 11). -/
def applyTierAdd (t : Nat) (expiry : Option NetSec) (s : State) : (Status × List Byte) × State :=
  let held := (s.access.tier t).isSome
  if held = false ∧ 64 ≤ s.access.tiers.length then ((.tableFull, []), s)
  else
    let r : Tier := ⟨t, expiry, tierTimer s expiry⟩
    let others := s.access.tiers.filter fun q => q.tier != t
    let gone := tierPassed s r
    let tiers := if gone then others else insertBy (fun a b => decide (a.tier < b.tier)) r others
    let s' := tierChange [t] (s.onAccess fun u => { u with tiers := tiers })
    ((.ok, u8 (if gone then 3 else if held then 1 else 2)), s')

/-- TIER REMOVE (R109): the outcome is REMOVED 4 or NO_CHANGE 5 (log entry 11). -/
def applyTierRemove (t : Nat) (s : State) : (Status × List Byte) × State :=
  let held := (s.access.tier t).isSome
  let s' := tierChange [t]
    (s.onAccess fun u => { u with tiers := u.tiers.filter fun q => q.tier != t })
  ((.ok, u8 (if held then 4 else 5)), s')

/-- CREDIT ADD (R110). -/
def applyCreditAdd (n : Nat) (s : State) : (Status × List Byte) × State :=
  let sum := s.access.balance + n
  let bal := min sum 1000000
  let s' := raise .access (markDirty .access (s.onAccess fun u => { u with balance := bal }))
  (if 1000000 < sum then (.okClamped, u32 bal ++ u32 (sum - 1000000)) else (.ok, u32 bal), s')

/-- EVENT GRANT (R111): the outcome is DUPLICATE 1, ADDED 2 or ENDED 3 (log
entry 11). -/
def applyEventGrant (sid eid a b : Nat) (s : State) : (Status × List Byte) × State :=
  let done (t : State) := markService sid (raise .access (markDirty .access t))
  if (s.access.bought sid eid).isSome then ((.ok, u8 1), done s)
  else if 64 ≤ s.access.purchases.length then ((.listFull, []), s)
  else
    let r : PurchaseRecord :=
      { service := sid, event := eid, start := a, stop := b, price := 0,
        time := if s.timeKnown then s.netSec else 0, granted := true, reported := false,
        inBatch := false, timer := none }
    let t := appendRecord r s
    let t' := removeRecords (fun q => q.service == sid && q.event == eid) t
    ((.ok, u8 (if recordEnded s r then 3 else 2)), done t')

/-- PIN RESET (R112, R143). -/
def applyPinReset (p : Pin) (s : State) : (Status × List Byte) × State :=
  ((.ok, []), raise .parental (markDirty .parental
    (s.onParental fun u => { u with masterPin := p, attempts := 0, lockout := none })))

/-- Applies a valid grant by its kind, with the reply to its GRANT (R108). -/
def applyGrant (g : Grant) (s : State) : (Status × List Byte) × State :=
  match g with
  | .tierAdd t e => applyTierAdd t e s
  | .tierRemove t => applyTierRemove t s
  | .creditAdd n => applyCreditAdd n s
  | .eventGrant sid eid a b => applyEventGrant sid eid a b s
  | .pinReset p => applyPinReset p s

/-! ## The ends of transactions -/

/-- How a transaction ends (R108, R138). -/
inductive TxOutcome where
  | verdict (valid : Bool)
  | key (k : Key)
  | reject (reason : Nat)
  | failed (st : Status)
  deriving DecidableEq, Repr

/-- Answers a GRANT when its reply is still due (R108). -/
def grantReply (link : Agent) (due : Bool) (r : Status × List Byte) (s : State) : State :=
  if due then reply link r.1 r.2 s else s

/-- The end of a VERIFY (R108). The gates an applied grant names are evaluated before its reply is sent
(R113). -/
def endVerify (link : Agent) (message : List Byte) (due : Bool) (o : TxOutcome) (s : State) : State :=
  match o with
  | .verdict true =>
    match grantOf message with
    | .ok g => grantReply link due (applyGrant g s).1 (evalGates (applyGrant g s).2)
    | .error _ => grantReply link due (.invalid, []) s
  | .reject reason => grantReply link due (.invalid, u8 reason) s
  | .failed st => grantReply link due (st, []) s
  | _ => grantReply link due (.invalid, []) s

/-- What an UNWRAP's end makes of its slot (R138). -/
def endedSlot (k : Slot) (version : Nat) (stale : Bool) (key : Option Key) : Slot :=
  if stale then (if k.pending = some version then { k with pending := none } else k)
  else
    match key with
    | some x => ⟨some ⟨version, x⟩, none⟩
    | none => { k with pending := none }

/-- The end of an UNWRAP acts on its slot; the gate is named when the slot has become LOADED or EMPTY
from another state (R138). -/
def endUnwrap (p : PathNo) (ph : Phase) (version : Nat) (stale : Bool) (key : Option Key)
    (s : State) : State :=
  let k := (s.path p).slot ph
  let k' := endedSlot k version stale key
  let t := s.onPath p fun x => x.setSlot ph k'
  if k'.stateCode ≠ k.stateCode ∧ k'.stateCode ≠ 2 then markGate p t else t

/-- The end of a transaction (R108, R138). -/
def endTx (t : Transaction) (stale : Bool) (o : TxOutcome) (s : State) : State :=
  match t with
  | .verify l _ m due => endVerify l m due o s
  | .unwrap p ph v _ _ =>
    endUnwrap p ph v stale (match o with
      | .key k => some k
      | _ => none) s

/-- Fails every outstanding entry and then every waiting transaction with CARD_ABSENT, leaving the table
and the queue empty (R121, R129, R132). -/
def failAll (s : State) : State :=
  let c := s.card
  let s := s.onCard fun c => { c with outstanding := [], waiting := [] }
  let s := forEach c.outstanding (fun e => endTx e.tx e.stale (.failed .cardAbsent)) s
  forEach c.waiting (fun t => endTx t false (.failed .cardAbsent)) s

/-- The card becomes FAULTED (R129). -/
def becomeFaulted (s : State) : State :=
  cardMove .faulted (failAll (s.onCard fun c => { c with resetExpiry := none, wakeExpiry := none }))

/-- Counts a failure; the third in a row makes the card FAULTED (R129). -/
def countFailure (s : State) : State :=
  let n := s.card.failures + 1
  let s := s.onCard fun c => { c with failures := min n 3 }
  if 3 ≤ n then becomeFaulted s else s

/-- The outstanding entry of a tag. -/
def CardLink.entry (c : CardLink) (tag : Nat) : Option Entry := c.outstanding.find? fun e => e.tag == tag

/-- Takes the entry of a tag out of the table. -/
def dropEntry (tag : Nat) (s : State) : State :=
  s.onCard fun c => { c with outstanding := c.outstanding.filter fun e => e.tag != tag }

/-- Changes the entry of a tag. -/
def updateEntry (tag : Nat) (f : Entry → Entry) (s : State) : State :=
  s.onCard fun c =>
    { c with outstanding := c.outstanding.map fun e => if e.tag = tag then f e else e }

/-- Whether a tag rests (R127). -/
def tagRests (c : CardLink) (tag : Nat) : Bool :=
  allTags.any fun t => t.val == tag && (c.resting.get t).isSome

/-- Sets the rest of a tag. -/
def setRest (tag : Nat) (r : Option Count) (s : State) : State :=
  s.onCard fun c =>
    { c with resting := Vector.ofFn fun t => if t.val = tag then r else c.resting.get t }

/-- A transaction fails by its timeout or the busy limit: it leaves the table, the fault is captured, it
ends, and the failure counts (R125, R127). -/
def failEntry (e : Entry) (f : CardFault) (st : Status) (s : State) : State :=
  let s := dropEntry e.tag s
  let s := captureFault f (some e.tag) (some (e.tx.origin, e.stale)) s
  countFailure (endTx e.tx e.stale (.failed st) s)

/-- An unexpected reply is discarded and captured; its tag is absent when outside 0..3 (R128, R130). -/
def unexpectedReply (tag : Nat) (s : State) : State :=
  captureFault .unexpectedReply (if tag < 4 then some tag else none) none s

/-- What becomes of a tagged reply of a known kind: in READY or WAKING it goes to its entry, is discarded
when its tag rests, and is unexpected otherwise; in every other state it is discarded (R119, R127,
R128). -/
def takeReply (tag : Nat) (onEntry : Entry → State → State) (s : State) : State :=
  if s.card.state = .ready ∨ s.card.state = .waking then
    match s.card.entry tag with
    | some e => onEntry e s
    | none => if tagRests s.card tag then s else unexpectedReply tag s
  else s

/-! ## Key messages (R135, R136) -/

/-- A key message (00_scope, "Key-message packet payload"). -/
structure KeyMessage where
  phase   : Phase
  version : Nat
  req     : Requirement
  wrapped : List Byte
  deriving DecidableEq, Repr

/-- The key message a payload spells; none when it is malformed (R135), as a payload that is not of 20 bytes is
(log entry 21). -/
def keyMessageOf (payload : List Byte) : Option KeyMessage :=
  match fields [1, 1, 2, 16] payload with
  | some [b, kind, v, _] =>
    let req : Option Requirement :=
      match kind with
      | 1 => if v ≤ 255 then some (.tier v) else none
      | 2 => some (.event v)
      | _ => none
    if b / 16 % 8 = 0 then
      req.map fun r => ⟨if b / 128 = 0 then .a else .b, b % 16, r, payload.drop 4⟩
    else none
  | _ => none

/-- Whether a path takes key messages in its present state (R135). -/
def takesKeys (p : PathNo) (st : PathState) : Bool :=
  !st.isDenied &&
    (!isView p ||
      match st with
      | .acquiring => true
      | .presenting => true
      | .blocked _ => true
      | _ => false)

/-- A key message taken by a path is judged against the slot of its phase (R136). -/
def judgeKeyMessage (p : PathNo) (v : Service) (m : KeyMessage) (s : State) : State :=
  let k := (s.path p).slot m.phase
  if k.loaded.map (·.version) = some m.version ∨ k.pending = some m.version then s
  else if (requirementTest s v.id m.req).isSome then markGate p s
  else
    let s := cancelUnwraps p [m.phase] s
    if queueHasRoom s then
      enqueueTx (.unwrap p m.phase m.version m.req m.wrapped)
        (s.onPath p fun x =>
          x.setSlot m.phase { x.slot m.phase with pending := some m.version })
    else s

/-- A packet on a path's key-message stream tag (R87, R135). -/
def keyPacket (p : PathNo) (v : Service) (payload : List Byte) (s : State) : State :=
  if takesKeys p (s.path p).state then
    match keyMessageOf payload with
    | some m => judgeKeyMessage p v m s
    | none => s
  else s

end Sys2Proof.Machine
end

