-- ==== Sys2Proof/Machine/JobOps.lean ====
section
/-! DEFINITION. The Job Scheduler: effective times (R157), the conflict check (R159), starts with their
buy (R161, R162), ends (R165), the re-read of an event (R166) and the start of start due jobs (R161). -/

namespace Sys2Proof.Machine

/-! ## Effective times and the list (R157) -/

/-- The effective start of a job: its start minus its pad before (R157). -/
def Job.effStart (j : Job) : Int := (j.start : Int) - (j.padBefore : Int)

/-- The effective end of a job: its end plus its pad after or, once it has an actual start, the lesser of
that sum and the actual start plus 28,800 (R157). -/
def Job.effStop (j : Job) : Int :=
  match j.actualStart with
  | none => (j.stop : Int) + (j.padAfter : Int)
  | some a => min ((j.stop : Int) + (j.padAfter : Int)) ((a : Int) + 28800)

/-- The finished states (R157). -/
def Job.finished (j : Job) : Bool := decide (j.state ≠ .scheduled ∧ j.state ≠ .active)

/-- Places a job in the list, in ascending order of effective start, after those of equal start (R157). -/
def placeJob (j : Job) (l : List Job) : List Job :=
  insertBy (fun a b => decide (a.effStart < b.effStart)) j l

/-- Takes the record of a job's id out of the list and places the job again (R157). -/
def replaceJob (j : Job) (s : State) : State :=
  s.setJobs { s.jobs with list := placeJob j (s.jobs.list.filter fun k => k.id != j.id) }

/-- Gives the record of a job's id new contents: it is placed again when its effective start changes, and
keeps its place otherwise (R157). -/
def retimeJob (j : Job) (s : State) : State :=
  if (s.job j.id).any (fun k => k.effStart == j.effStart) then updateJob j.id (fun _ => j) s
  else replaceJob j s

/-- A job finished in a state: it has no path and holds no expiry (R157). -/
def Job.finishAs (j : Job) (st : JobState) : Job :=
  { j with state := st, path := none, startDue := false, startExpiry := none, endExpiry := none,
           graceExpiry := none }

/-- Finishes a job (R157). -/
def finishJob (id : Nat) (st : JobState) (s : State) : State :=
  jobChanged (updateJob id (fun j => j.finishAs st) s)

/-! ## The conflict check (R159) -/

/-- The number of SCHEDULED and ACTIVE jobs, leaving out one id, that occupy a network second. -/
def occupying (jobs : List Job) (without : Nat) (t : Int) : Nat :=
  jobs.countP fun j => !j.finished && j.id != without && decide (j.effStart ≤ t ∧ t < j.effStop)

/-- The conflict check for a job of a span: at every second of the span, the job and the jobs occupying
that second number 4 or fewer (R159). The number can rise only where a job begins, so the start of the
span and the starts that lie in it are the seconds to look at. -/
def conflictFree (jobs : List Job) (without : Nat) (a b : Int) : Bool :=
  let starts := (jobs.map Job.effStart).filter fun t => decide (a < t ∧ t < b)
  decide (b ≤ a) || (a :: starts).all fun t => decide (occupying jobs without t + 1 ≤ 4)

/-! ## Starting (R81, R161, R162) -/

/-- The lowest-numbered IDLE record path (R161). -/
def idleRecordPath (s : State) : Option PathNo :=
  recordPaths.find? fun p => !(s.path p).hasService

/-- Sets up a record path for a job: job id, snapshot, last service, last change, lookup and claim (R81). -/
def setUpRecord (p : PathNo) (id : Nat) (v : Service) (s : State) : State :=
  let s := s.onPath p fun x =>
    { x with job := some id, snapshot := some v, lastService := some v.id,
             lastChange := s.localCount }
  claim p (takeLookup p s)

/-- Undoes the set-up of a record path (R162). -/
def undoSetUp (p : PathNo) (s : State) : State :=
  let s := releaseInput p s
  let s := s.onPath p fun x =>
    { x with job := none, snapshot := none, currentEvent := none, boundary := none }
  setPathState p (.idle .jobEnded) s

/-- The buy of a job, when its buy flag is set: the failure it leads to, if any (R162). -/
def buyForJob (j : Job) (s : State) : Option FailReason × State :=
  match j.buy, j.trigger with
  | true, .event e =>
    match jobBuy j.service e s with
    | (.noCredit, t) => (some .noCredit, t)
    | (.listFull, t) => (some .listFull, t)
    | (_, t) => (none, t)
  | _, _ => (none, s)

/-- The job as it becomes ACTIVE on a path (R161, step 5). -/
def activated (s : State) (p : PathNo) (j : Job) : Job :=
  let k : Job :=
    { j with state := .active, path := some p, startDue := false, startExpiry := none,
             graceExpiry := some (s.localCount + 30000)
             actualStart := some (j.actualStart.getD s.netSec)
             interruptions :=
               if j.actualStart.isSome then min 65535 (j.interruptions + 1) else j.interruptions }
  { k with endExpiry := some (s.expiryOfSec k.effStop) }

/-- Steps 3 to 6 of a start on an IDLE record path (R161). An input that a failed buy leaves FREE is offered
to the claim queue at the end of the action, after the action's own claims (R66, R162). -/
def startOn (p : PathNo) (j : Job) (v : Service) (s : State) : State :=
  match buyForJob j (setUpRecord p j.id v s) with
  | (none, t) => markGate p (jobChanged (updateJob j.id (activated t p) t))
  | (some r, t) => finishJob j.id (.failed r) (undoSetUp p t)

/-- A job becomes start due, or stays so: its start expiry is absent and its end expiry set (R161, step
2). -/
def becomeStartDue (j : Job) (s : State) : State :=
  updateJob j.id (fun k =>
    { k with startDue := true, startExpiry := none, endExpiry := some (s.expiryOfSec k.effStop) }) s

/-- The start of a SCHEDULED job (R161). -/
def startJob (id : Nat) (s : State) : State :=
  match s.job id with
  | none => s
  | some j =>
    if j.state ≠ .scheduled then s
    else
      match s.lineup.service j.service with
      | none => finishJob id (.failed .serviceRemoved) s
      | some v =>
        match idleRecordPath s with
        | none => becomeStartDue j s
        | some p => startOn p j v s

/-- Starts a start due job on a record path that has become IDLE, from step 3 (R161). -/
def startDueJob (id : Nat) (s : State) : State :=
  match s.job id with
  | none => s
  | some j =>
    if j.startDue then
      match s.lineup.service j.service, idleRecordPath s with
      | some v, some p => startOn p j v s
      | _, _ => s
    else s

/-- Starts the start due jobs in list order while IDLE record paths remain (R161). -/
def startDueJobs (s : State) : State :=
  forEach ((s.jobs.list.filter (·.startDue)).map (·.id)) startDueJob s

/-! ## Ending (R163, R165) -/

/-- Ends an ACTIVE job in a finished state and makes its path IDLE(JOB_ENDED) (R163, R165, R160). -/
def endJob (j : Job) (st : JobState) (s : State) : State :=
  let s := finishJob j.id st s
  match j.path with
  | none => s
  | some p => goIdle p .jobEnded s

/-- What becomes of a job when its effective end is reached: an ACTIVE one ends COMPLETE (R165), a start
due one becomes MISSED (R161). -/
def jobEndReached (j : Job) (s : State) : State :=
  if j.state = .active then endJob j .complete s
  else if j.startDue then finishJob j.id .missed s
  else s

/-! ## Following the guide (R166) -/

/-- The re-read of a SCHEDULED job that finds its event with new times (R166): a job that stays SCHEDULED or
starts is placed again, whether or not its effective start has changed. -/
def rereadScheduled (j : Job) (e : GuideEvent) (s : State) : State :=
  let k : Job := { j with start := e.start, stop := e.stop }
  if s.timeKnown = true ∧ k.effStop ≤ (s.netSec : Int) then
    jobChanged (retimeJob (k.finishAs .missed) s)
  else if conflictFree s.jobs.list j.id k.effStart k.effStop = false then
    finishJob j.id (.failed .conflict) s
  else if s.timeKnown = true ∧ k.effStart ≤ (s.netSec : Int) then
    startJob j.id (jobChanged (replaceJob k s))
  else
    jobChanged (replaceJob
      { k with startDue := false, endExpiry := none, startExpiry := s.expiryIfKnown k.effStart } s)

/-- The re-read of an ACTIVE job that finds its event with new times (R166). -/
def rereadActive (j : Job) (e : GuideEvent) (s : State) : State :=
  let moved : Job := { j with start := e.start, stop := e.stop }
  let fits := conflictFree s.jobs.list j.id moved.effStart moved.effStop
  let k : Job := if fits then moved else { j with start := e.start }
  if k.start = j.start ∧ k.stop = j.stop then s
  else
    let k : Job := { k with endExpiry := some (s.expiryOfSec k.effStop) }
    let t := jobChanged (retimeJob k s)
    if k.effStop ≤ (s.netSec : Int) then endJob k .complete t else t

/-- The re-read of an event-triggered job (R166). -/
def rereadJob (id : Nat) (s : State) : State :=
  match s.job id with
  | none => s
  | some j =>
    match j.trigger with
    | .time => s
    | .event eid =>
      match j.state, s.guide.event j.service eid with
      | .scheduled, none => finishJob id (.failed .eventGone) s
      | .scheduled, some e =>
        if e.start = j.start ∧ e.stop = j.stop then s else rereadScheduled j e s
      | .active, some e =>
        if e.start = j.start ∧ e.stop = j.stop then s else rereadActive j e s
      | _, _ => s

end Sys2Proof.Machine
end

