-- ==== Sys2Proof/Machine/CommitOps.lean ====
section
/-! DEFINITION. What a lineup commit does (R30, R33, R34, R36, R67) and what the end of every action does:
the claim queue and start due jobs (R66, R161), the gates (R86), dispatch (R123), the card's idle check
(R139), SERVICE (R174) and the drain of QUIESCING (R172). -/

namespace Sys2Proof.Machine

/-! ## The commit -/

/-- The case of a path at a commit with its releases, the first stage (R33, R34). A path in TUNING is
left as it is (R35). -/
def commitPath (l : Lineup) (p : PathNo) (s : State) : State :=
  match (s.path p).snapshot with
  | none => s
  | some snap =>
    if (s.path p).state = .tuning then s
    else
      match commitCase l snap with
      | .removed => goIdle p .serviceRemoved s
      | .rerouted v =>
        let t := reroute p snap v s
        if snap.carrier = v.carrier then t else releaseInput p t
      | .rejudged v => takeSnapshot p v s
      | .unchanged => s

/-- Whether a path claims in a commit: it is re-routed to another carrier and does not wait in the claim
queue (R33, R65). -/
def claimsInCommit (l : Lineup) (s : State) (p : PathNo) : Bool :=
  match (s.path p).snapshot with
  | none => false
  | some snap =>
    (s.path p).state != .tuning && !(decide (p ∈ s.claimQueue)) &&
      (match commitCase l snap with
      | .rerouted v => v.carrier != snap.carrier
      | _ => false)

/-- Whether two carrier records give a tuner the same parameters (R67). -/
def sameParameters (c d : Carrier) : Bool :=
  c.frequency == d.frequency && c.modulation == d.modulation && c.symbolRate == d.symbolRate

/-- The comparison of an input with the new record of its carrier id (R34, R67). An input whose carrier id the
replaced lineup did not hold, and the new one holds again, has no parameters `as before` to compare: it is
tuned again (log entry 27). -/
def retuneForCommit (old : Lineup) (i : InputNo) (s : State) : State :=
  match (s.input i).state, (s.input i).carrier with
  | .free, _ => s
  | _, none => s
  | _, some c =>
    match s.lineup.carrier c with
    | none => s
    | some r =>
      if (old.carrier c).any (sameParameters r) then s
      else markGates (s.input i).holders (tuneInto i c s)

/-- What a commit does to a job (R36). -/
def commitJob (id : Nat) (s : State) : State :=
  match s.job id with
  | none => s
  | some j =>
    if (s.lineup.service j.service).isSome then s
    else
      match j.state, j.path with
      | .scheduled, _ => finishJob id (.failed .serviceRemoved) s
      | .active, none => finishJob id (.failed .serviceRemoved) s
      | .active, some p =>
        (finishJob id (.failed .serviceRemoved) s).onPath p fun x => { x with job := none }
      | _, _ => s

/-- Commits a lineup (R30): dirty mark and notice, releases and input re-tunes, claims of record paths
and then of view paths, the claim queue, the jobs. The gates it names are evaluated at the end of the
action. -/
def commitLineup (l : Lineup) (s : State) : State :=
  let old := s.lineup
  let records := recordPaths.filter (claimsInCommit l s)
  let views := viewPaths.filter (claimsInCommit l s)
  let s := raise .lineup (markDirty .lineup (s.setLineup l))
  let s := forEach allPaths (commitPath l) s
  let s := forEach allInputs (retuneForCommit old) s
  let s := serveQueue (forEach (records ++ views) claim s)
  forEach (s.jobs.list.map (·.id)) commitJob s

/-! ## The end of an action -/

/-- The claim queue, the start due jobs, the claim queue again for what a start due job's failed buy leaves
FREE, and the named gates (R66, R161, R162, R86). -/
def settlePaths (s : State) : State := evalGates (serveQueue (startDueJobs (serveQueue s)))

/-- The power state is STANDBY or SERVICE. -/
def inStandby (s : State) : Bool :=
  decide (s.power.state = .standby ∨ s.power.state = .service)

/-- Whether the card has nothing to do in standby (R139). -/
def cardIdle (s : State) : Bool :=
  inStandby s && decide (s.card.state = .ready) && s.card.outstanding.isEmpty &&
    s.card.waiting.isEmpty && recordPaths.all fun p => !(s.path p).hasService

/-- The Card Link's idle check: the clock of an idle card is stopped (R139). -/
def idleCheck (s : State) : State :=
  if cardIdle s then evalGates (cardMove .idleClock (send .cardClockStop s)) else s

/-- In STANDBY and SERVICE the power state follows the card (R174). -/
def serviceFollow (s : State) : State :=
  if inStandby s then
    s.setPower
      { s.power with
        state := if s.card.state = .waking ∨ s.card.state = .ready then .service else .standby }
  else s

/-- What the Card Link and the Power Controller do at the end of an action, short of the drain. -/
def settleStandby (s : State) : State := serviceFollow (idleCheck (dispatch s))

/-- The three drain conditions (R172). -/
def drained (s : State) : Bool :=
  decide (verifyCount s = 0) && s.store.dirty.isEmpty && s.store.write.isNone && s.staging.isNone

/-- QUIESCING ends in STANDBY when the drain conditions hold (R172). -/
def drain (s : State) : State :=
  if s.power.state = .quiescing ∧ drained s = true then
    let held := s.power.held
    let s := s.setPower { state := .standby, held := none }
    let s :=
      match held with
      | some l => settlePaths (commitLineup l s)
      | none => s
    settleStandby (raise .power s)
  else s

/-- What the Card Link and the Power Controller do at the end of an action (R123, R139, R172, R174). -/
def settleCard (s : State) : State := drain (settleStandby s)

/-- The end of an action. -/
def settle (s : State) : State := settleCard (settlePaths s)

end Sys2Proof.Machine
end

