-- ==== Sys2Proof/Machine/TimeOps.lean ====
section
/-! DEFINITION. The Time Base at work: re-anchors (R4), marks (R8 to R13), and what its announcements do in
every block that hears them (R5, R51, R92, R97, R102, R153, R167), with the guide's sweep and change
signals (R42, R50). -/

namespace Sys2Proof.Machine

/-! ## Guide signals and the sweep (R42, R50) -/

/-- The services of a list once each, in ascending order (R42). -/
def orderedOnce (xs : List Nat) : List Nat :=
  xs.foldl (fun l x => if x ∈ l then l else insertBy (fun a b => decide (a < b)) x l) []

/-- The guide-change signal of a service to one path (R93). -/
def signalPath (sid : Nat) (p : PathNo) (s : State) : State :=
  if (s.path p).snapshot.any (fun v => v.id == sid) then markGate p (takeLookup p s) else s

/-- The guide-change signal of a service, to the Stream Paths and then to the Job Scheduler (R42). -/
def signalService (sid : Nat) (s : State) : State :=
  let s := forEach allPaths (signalPath sid) s
  forEach ((s.jobs.list.filter fun j => j.service == sid).map (·.id)) rereadJob s

/-- The end of an action that placed or removed events of some services (R42). -/
def guideChanged (affected : List Nat) (s : State) : State :=
  if affected.isEmpty then s else raise .guide (forEach (orderedOnce affected) signalService s)

/-- Takes a sweep: every event that ended more than 3,600 s ago is removed, when time is set (R50). -/
def sweep (s : State) : State :=
  if s.timeKnown then
    let old (e : GuideEvent) : Bool := decide (e.stop + 3600 < s.netSec)
    let gone := s.guide.pool.filter old
    guideChanged (gone.map (·.service))
      (s.setGuide { s.guide with pool := s.guide.pool.filter fun e => !old e })
  else s

/-! ## Announcements (R5) -/

/-- The announcements of the Time Base (R5). -/
inductive Announcement where
  | timeSet
  | reAnchor
  | step
  deriving DecidableEq, Repr

/-- A path takes its boundary expiry (R90). -/
def takeBoundary (p : PathNo) (s : State) : State := markGate p (takeLookup p s)

/-- A path recomputes its boundary expiry from the same boundary; one that is reached is taken at once
(R92). -/
def refreshBoundary (p : PathNo) (s : State) : State :=
  match (s.path p).boundary with
  | none => s
  | some b =>
    let e := s.expiryOfSec b.moment
    let t := s.onPath p fun x => { x with boundary := some ⟨b.moment, e⟩ }
    if e ≤ s.localCount then takeBoundary p t else t

/-- An announcement reaches a path (R92). -/
def announceToPath (n : Announcement) (p : PathNo) (s : State) : State :=
  if (s.path p).hasService then
    match n with
    | .reAnchor => refreshBoundary p s
    | _ => markGate p (takeLookup p s)
  else s

/-- An announcement reaches the Access Unit (R97, R102). -/
def announceToAccess (n : Announcement) (s : State) : State :=
  match n with
  | .reAnchor => refreshEndTimers (refreshTierTimers s)
  | _ => setEndTimers (removeRecords (fun _ => true) (expireTiers s))

/-- An announcement reaches the Parental Unit (R153). -/
def announceToParental (n : Announcement) (s : State) : State :=
  match n with
  | .timeSet =>
    judgeWindow (setRollover (s.onParental fun u => { u with lastRollover := some s.localDay }))
  | _ => judgeWindow (rolloverIfDue s)

/-- A SCHEDULED job is judged at the present network second (R167, TIME SET and STEP). -/
def judgeScheduled (j : Job) (s : State) : State :=
  if j.effStop ≤ (s.netSec : Int) then finishJob j.id .missed s
  else if j.effStart ≤ (s.netSec : Int) then startJob j.id s
  else updateJob j.id (fun k => { k with startExpiry := some (s.expiryOfSec k.effStart) }) s

/-- An ACTIVE job is judged at the present network second (R167, STEP). -/
def judgeActive (j : Job) (s : State) : State :=
  if j.effStop ≤ (s.netSec : Int) then endJob j .complete s
  else updateJob j.id (fun k => { k with endExpiry := some (s.expiryOfSec k.effStop) }) s

/-- A job recomputes its expiries under a new anchor; one that is reached is taken at once (R167,
RE-ANCHOR). -/
def reAnchorJob (j : Job) (s : State) : State :=
  let again (e : Option Count) (moment : Int) : Option Count :=
    if e.isSome then some (s.expiryOfSec moment) else none
  let k : Job :=
    { j with startExpiry := again j.startExpiry j.effStart, endExpiry := again j.endExpiry j.effStop }
  let t := updateJob j.id (fun _ => k) s
  if s.reached k.startExpiry then startJob j.id t
  else if s.reached k.endExpiry then jobEndReached k t
  else t

/-- An announcement reaches one job (R167). -/
def announceToJob (n : Announcement) (id : Nat) (s : State) : State :=
  match s.job id with
  | none => s
  | some j =>
    match n, j.state with
    | .reAnchor, _ => reAnchorJob j s
    | _, .scheduled => judgeScheduled j s
    | .step, .active => judgeActive j s
    | _, _ => s

/-- The Time Base announces a change: the Stream Paths, the Access Unit, the Parental Unit and the Job
Scheduler handle it in the order of R5, and the Guide Store takes a sweep at TIME SET (R51). -/
def announce (n : Announcement) (s : State) : State :=
  let s := forEach allPaths (announceToPath n) s
  let s := announceToAccess n s
  let s := announceToParental n s
  let s := forEach (s.jobs.list.map (·.id)) (announceToJob n) s
  match n with
  | .timeSet => sweep s
  | _ => s

/-! ## Anchors and marks (R4, R8 to R13) -/

/-- A re-anchor at the present count (R4). -/
def reAnchorAt (l : Count) (t : TimeBase) : TimeBase :=
  { t with baseT := netTimeAt t l, baseL := l }

/-- The outcome of a time mark (R16). -/
inductive MarkOutcome where
  | first
  | step (e : Int)
  | slew (e : Int)
  | onTime
  | rejected (e : Int)
  deriving DecidableEq, Repr

/-- A time mark: its source, its carrier input when in-band, and its network time (R6). -/
structure TimeMark where
  source : Source
  input  : Option InputNo
  n      : NetMs
  deriving DecidableEq, Repr

/-- The rate a mark teaches, when the conditions of R11 hold. -/
def taughtRate (t : TimeBase) (l : Count) (m : TimeMark) : Option Nat :=
  match t.prevMark with
  | none => none
  | some p =>
    let dL := l - p.takenAt
    if p.source = m.source ∧ p.input = m.input ∧ 60000 ≤ dL ∧ dL ≤ 1800000 then
      let r : Int := ((m.n : Int) - (p.n : Int)) * 65536 / (dL : Int)
      let new : Int := (t.rate : Int) + (r - (t.rate : Int)).tdiv 4
      some (max 64881 (min 66191 new)).toNat
    else none

/-- The duration of a slew of S (R14). -/
def slewDuration (e : Int) : Nat := ceilDiv (e.natAbs * 65536) 655

/-- A mark taken in UNSET, or TIME SET, anchors the clock (R9, R18). -/
def anchorFirst (n : NetMs) (prev : Option PrevMark) (s : State) : State :=
  let s := s.setTime
    { s.time with
      baseT := n, baseL := s.localCount, state := .set, prevMark := prev,
      holdover := some (s.localCount + 1800000) }
  announce .reAnchor (announce .timeSet (raise .time s))

/-- The Time Base after the rate learning of R11. -/
def learnRate (l : Count) (m : TimeMark) (t : TimeBase) : TimeBase :=
  match taughtRate t l m with
  | none => t
  | some r => { reAnchorAt l t with rate := r }

/-- The Time Base after the phase correction of R12 by a phase error. -/
def correctPhase (l : Count) (n : NetMs) (e : Int) (t : TimeBase) : TimeBase :=
  if 2001 ≤ e then { t with baseT := n, baseL := l, slew := 0, slewEnd := none }
  else if e = 0 then
    { (if t.slew = 0 then t else reAnchorAt l t) with slew := 0, slewEnd := none }
  else { reAnchorAt l t with slew := e, slewEnd := some (l + slewDuration e) }

/-- How the acceptance of a mark in SET or HOLDOVER ends: prev mark becomes the mark, holdover is 1,800,000 ms
ahead, and the state is SET (R13). -/
def endMark (prev : PrevMark) (s : State) : State :=
  s.setTime { s.time with
    prevMark := some prev, holdover := some (prev.takenAt + 1800000), state := .set }

/-- Takes an accepted or rejected mark of the selected source whole (R8 to R13), with its outcome and
whether it taught a rate. -/
def takeMark (m : TimeMark) (s : State) : MarkOutcome × Bool × State :=
  let l := s.localCount
  let prev : PrevMark := ⟨m.source, m.input, m.n, l⟩
  if s.time.state = .unset then (.first, false, anchorFirst m.n (some prev) s)
  else
    let e : Int := (m.n : Int) - (s.netMs : Int)
    if e < -600000 then (.rejected e, false, raise .time s)
    else
      let t := s.time
      let taught := (taughtRate t l m).isSome
      let anchored := taught || decide (e ≠ 0) || decide (t.slew ≠ 0)
      let notice := decide (t.state = .holdover) || decide (2001 ≤ e)
      let s := s.setTime (correctPhase l m.n e (learnRate l m t))
      let s := if 2001 ≤ e then announce .step s else s
      let s := if anchored then announce .reAnchor s else s
      let s := endMark prev s
      let s := if notice then raise .time s else s
      (if 2001 ≤ e then .step e else if e = 0 then .onTime else .slew e, taught, s)

end Sys2Proof.Machine
end

