-- ==== Sys2Proof/Machine/Requests.lean ====
section
/-! DEFINITION. The requests of the agents: their codes, the permission table and the checks at the head
of a link queue (R184), and the ways a request is answered (R183). -/

namespace Sys2Proof.Machine

/-- The requests of the table of R184, in the order of their codes. -/
inductive Req where
  | hello | resign | disable | enable | noticeMap | readNotices | linkStatus
  | timeMark | timeSource | timeSet | zoneSet | timeRead
  | lineupBegin | lineupAdd | lineupEnd | lineupRead
  | guideLoad | guideDrop | guideRead
  | inputRead | tunePath | stepPath | releasePath | pathRead
  | purchase | grant | reportFetch | reportClear | entitlementRead | cardStatus | cardReset
  | faultRead | faultClear
  | profileSelect | profileWrite | unlock | extend | parentalStatus
  | jobAdd | jobRemove | jobList
  | standby | wake | powerStatus | partReset
  deriving DecidableEq, Repr

/-- The code of a request (R184). -/
def Req.code : Req → Nat
  | .hello => 1 | .resign => 2 | .disable => 3 | .enable => 4 | .noticeMap => 5
  | .readNotices => 6 | .linkStatus => 7
  | .timeMark => 10 | .timeSource => 11 | .timeSet => 12 | .zoneSet => 13 | .timeRead => 14
  | .lineupBegin => 20 | .lineupAdd => 21 | .lineupEnd => 22 | .lineupRead => 23
  | .guideLoad => 25 | .guideDrop => 26 | .guideRead => 27
  | .inputRead => 30 | .tunePath => 31 | .stepPath => 32 | .releasePath => 33 | .pathRead => 34
  | .purchase => 40 | .grant => 41 | .reportFetch => 42 | .reportClear => 43
  | .entitlementRead => 44 | .cardStatus => 45 | .cardReset => 46 | .faultRead => 47
  | .faultClear => 48
  | .profileSelect => 50 | .profileWrite => 51 | .unlock => 52 | .extend => 53
  | .parentalStatus => 54
  | .jobAdd => 60 | .jobRemove => 61 | .jobList => 62
  | .standby => 70 | .wake => 71 | .powerStatus => 72 | .partReset => 73

/-- Every request, in the order of the codes. -/
def allRequests : List Req :=
  [.hello, .resign, .disable, .enable, .noticeMap, .readNotices, .linkStatus,
   .timeMark, .timeSource, .timeSet, .zoneSet, .timeRead,
   .lineupBegin, .lineupAdd, .lineupEnd, .lineupRead,
   .guideLoad, .guideDrop, .guideRead,
   .inputRead, .tunePath, .stepPath, .releasePath, .pathRead,
   .purchase, .grant, .reportFetch, .reportClear, .entitlementRead, .cardStatus, .cardReset,
   .faultRead, .faultClear,
   .profileSelect, .profileWrite, .unlock, .extend, .parentalStatus,
   .jobAdd, .jobRemove, .jobList,
   .standby, .wake, .powerStatus, .partReset]

/-- The request of a code; none when the code names no request (R184). -/
def requestOf (code : Nat) : Option Req := allRequests.find? fun q => q.code == code

/-- What the permission table says of a request and an agent (R184). -/
inductive Permission where
  | yes | no | lead | pathZero
  deriving DecidableEq, Repr

/-- One line of the permission table, for agents 1, 2 and 3. -/
def perm (m n p : Permission) : Agent → Permission
  | .media => m
  | .network => n
  | .panel => p

/-- The permission table (R184). -/
def permission : Req → Agent → Permission
  | .hello => perm .yes .yes .yes
  | .resign => perm .lead .lead .lead
  | .disable => perm .lead .lead .lead
  | .enable => perm .lead .lead .lead
  | .noticeMap => perm .lead .lead .lead
  | .readNotices => perm .yes .yes .yes
  | .linkStatus => perm .yes .yes .yes
  | .timeMark => perm .no .yes .no
  | .timeSource => perm .lead .lead .lead
  | .timeSet => perm .lead .lead .lead
  | .zoneSet => perm .lead .lead .lead
  | .timeRead => perm .yes .yes .yes
  | .lineupBegin => perm .no .yes .no
  | .lineupAdd => perm .no .yes .no
  | .lineupEnd => perm .no .yes .no
  | .lineupRead => perm .yes .yes .yes
  | .guideLoad => perm .no .yes .no
  | .guideDrop => perm .no .yes .no
  | .guideRead => perm .yes .no .yes
  | .inputRead => perm .yes .yes .yes
  | .tunePath => perm .yes .no .no
  | .stepPath => perm .yes .no .pathZero
  | .releasePath => perm .yes .no .no
  | .pathRead => perm .yes .yes .yes
  | .purchase => perm .yes .no .no
  | .grant => perm .no .yes .no
  | .reportFetch => perm .no .yes .no
  | .reportClear => perm .no .yes .no
  | .entitlementRead => perm .yes .yes .yes
  | .cardStatus => perm .yes .yes .yes
  | .cardReset => perm .lead .lead .lead
  | .faultRead => perm .yes .yes .yes
  | .faultClear => perm .lead .lead .lead
  | .profileSelect => perm .yes .no .yes
  | .profileWrite => perm .yes .no .no
  | .unlock => perm .yes .no .no
  | .extend => perm .yes .no .no
  | .parentalStatus => perm .yes .no .yes
  | .jobAdd => perm .yes .no .no
  | .jobRemove => perm .yes .no .no
  | .jobList => perm .yes .no .yes
  | .standby => perm .lead .lead .yes
  | .wake => perm .lead .lead .yes
  | .powerStatus => perm .yes .yes .yes
  | .partReset => perm .lead .lead .lead

/-- Whether the table forbids a request to an agent; for the panel agent's STEP PATH, when the body
names path 1 (R184, check 2). -/
def forbidden (q : Req) (a : Agent) (body : List Byte) : Bool :=
  match permission q a with
  | .no => true
  | .pathZero => body.head? == some 1
  | _ => false

/-- The checks at the head after check 1, in their order: NOT_PERMITTED, DISABLED, NOT_LEAD (R184). -/
def headRefusal (q : Req) (a : Agent) (body : List Byte) (s : State) : Option Status :=
  if forbidden q a body = true then some .notPermitted
  else if (s.link a).disabled = true ∧ q ≠ .hello then some .disabled
  else if permission q a = .lead ∧ s.lead ≠ some a then some .notLead
  else none

/-- The request a link can take: the one at the head of its queue, unless that is a GRANT already taken
that waits for its VERIFY (R183). -/
def State.head (s : State) (a : Agent) : Option Request :=
  if (s.link a).waiting then none else (s.link a).queue.head?

/-- Takes a request from the head of an agent's queue: the checks of R184, and then its own rule. When
the head is not this request there is nothing to take (log entry 1). -/
def takeRequest (q : Req) (a : Agent) (own : List Byte → State → State) (s : State) : State :=
  match s.head a with
  | none => s
  | some r =>
    if r.code = q.code then
      match headRefusal q a r.body s with
      | some st => reply a st [] s
      | none => own r.body s
    else s

/-- Ends a request that has acted: its gates are evaluated, it is answered, and the Card Link and the
Power Controller do what an action's end asks of them. The body is read off the state it leaves. -/
def finish (a : Agent) (st : Status) (body : State → List Byte) (s : State) : State :=
  let t := settlePaths s
  settleCard (reply a st (body t) t)

end Sys2Proof.Machine
end

