-- ==== Sys2Proof/Machine/AccessCommands.lean ====
section
/-! DEFINITION. Commands of the Access Unit: PURCHASE (R103 to R105), GRANT (R107), REPORT FETCH and REPORT
CLEAR (R114, R115), ENTITLEMENT READ (R117), and the tier and end expiries (R97, R102). -/

namespace Sys2Proof.Machine

/-! ## Records in replies -/

/-- A purchase record with every field of R101. Its end and its purchase time take four bytes, cut to 32 bits: log
entry 10, the model's choice. -/
def recordBytes (r : PurchaseRecord) : List Byte :=
  u16 r.service ++ u16 r.event ++ u32 r.start ++ u32 r.stop ++ u16 r.price ++ u32 r.time ++
    flagByte r.granted ++ flagByte r.reported ++ flagByte r.inBatch

/-- A purchase record as REPORT FETCH returns it (R114), its end and purchase time in four bytes as in `recordBytes`
(log entry 10: the model's choice). -/
def reportBytes (r : PurchaseRecord) : List Byte :=
  u16 r.service ++ u16 r.event ++ u32 r.start ++ u32 r.stop ++ u16 r.price ++ u32 r.time

/-! ## PURCHASE -/

/-- The PINs a PURCHASE accepts under the active profile; none when no PIN is checked (R104). -/
def purchasePins (u : Parental) : Option (List Pin) :=
  if u.active = 0 then none
  else if u.activeProfile.purchasePin then some [u.masterPin]
  else some (acceptedFor u u.active)

/-- The PIN check of a PURCHASE (R104). -/
def purchaseCheck (given : Pin) (s : State) : PinAnswer × State :=
  match purchasePins s.parental with
  | none => (.passed, s)
  | some l => pinCheck given l s

/-- The refusal of a purchase of an event that is for sale, in orders 6 to 9 (R103). The end TOO_LATE carries
is cut to 32 bits (log entry 10: the model's choice). -/
def purchaseRefusal (s : State) (sid : Nat) (e : GuideEvent) : Option (Status × List Byte) :=
  if e.stop ≤ s.netSec then some (.tooLate, u32 e.stop)
  else
    match s.access.bought sid e.id with
    | some r => some (.alreadyBought, recordBytes r)
    | none =>
      if 64 ≤ s.access.purchases.length then some (.listFull, u8 s.access.unreported)
      else if s.access.balance < e.price then
        some (.noCredit, u32 s.access.balance ++ u16 e.price)
      else none

/-- Orders 5 to 9 of a PURCHASE, and its carrying out (R103, R105). -/
def sellEvent (a : Agent) (sid eid : Nat) (s : State) : State :=
  match forSale s sid eid with
  | none => reply a .notForSale [] s
  | some e =>
    match purchaseRefusal s sid e with
    | some (st, body) => reply a st body s
    | none =>
      finish a .ok (fun t => u32 t.access.balance ++ u8 t.access.purchases.length)
        (applyPurchase sid e s)

/-- PURCHASE (R103); a BAD_FIELD names field 1 service id or 3 PIN (log entry 11), and no field when the body's
length does not fit (log entry 10). What a right PIN has reset stays so when orders 5 to 9 refuse (R104; log
entry 31). -/
def execPurchase (a : Agent) (s : State) : Host.Outcome State Fault Refusal :=
  .next <| takeRequest .purchase a (fun body s =>
    match fields [2, 2, 1, 1, 1, 1] body with
    | some [sid, eid, d1, d2, d3, d4] =>
      if sid = 0 then reply a .badField (u8 1) s
      else
        match pinOf d1 d2 d3 d4 with
        | none => reply a .badField (u8 3) s
        | some given =>
          if s.power.state ≠ .active then reply a .asleep [] s
          else if s.timeKnown = false then reply a .timeUnknown [] s
          else
            let r := purchaseCheck given s
            match r.1.refusal with
            | some (st, b) => reply a st b r.2
            | none => sellEvent a sid eid r.2
    | _ => reply a .badField [] s) s

/-! ## Expiries -/

/-- TIER_EXPIRY (R97): the record whose tier expiry is reached is removed. -/
def execTierExpiry (t : Nat) (s : State) : Host.Outcome State Fault Refusal :=
  .next
    (match s.access.tier t with
    | none => s
    | some r =>
      if s.reached r.timer then
        settle (tierChange [t]
          (s.onAccess fun u => { u with tiers := u.tiers.filter fun q => q.tier != t }))
      else s)

/-- Whether a purchase record is that of a service id and an event id. -/
def isRecord (sid eid : Nat) (r : PurchaseRecord) : Bool := r.service == sid && r.event == eid

/-- PURCHASE_END_EXPIRY (R102): the end expiry is taken once, and the record is removed when it is reported
or granted. -/
def execPurchaseEndExpiry (sid eid : Nat) (s : State) : Host.Outcome State Fault Refusal :=
  .next
    (match s.access.bought sid eid with
    | none => s
    | some r =>
      if s.reached r.timer then
        settle (removeRecords (isRecord sid eid)
          (s.onAccess fun u =>
            { u with purchases := u.purchases.map fun q =>
                if isRecord sid eid q then { q with timer := none } else q }))
      else s)

/-! ## GRANT (R107) -/

/-- Hands a grant message of good form to the Card Link as a VERIFY, or answers its refusal at once (R107,
R123). The GRANT stays at the head of its queue until the VERIFY ends (R183). -/
def submitVerify (a : Agent) (message : List Byte) (s : State) : State :=
  if cardUnusable s then reply a .cardAbsent [] s
  else if queueHasRoom s = false then reply a .cardBusy [] s
  else
    let tag := ((s.link a).queue.head?.map (·.tag)).getD 0
    settle (enqueueTx (.verify a tag message true) (s.setLink a { s.link a with waiting := true }))

/-- GRANT (R107). -/
def execGrant (a : Agent) (s : State) : Host.Outcome State Fault Refusal :=
  .next <| takeRequest .grant a (fun body s =>
    match grantOf body with
    | .error f => reply a .badField (u8 f) s
    | .ok _ => submitVerify a body s) s

/-! ## Reports (R114, R115) -/

/-- Whether a record waits to be reported. -/
def toReport (r : PurchaseRecord) : Bool := !r.reported && !r.granted

/-- Sets the in-batch flag of the first `n` records that wait to be reported (R114). -/
def markBatch : Nat → List PurchaseRecord → List PurchaseRecord
  | 0, l => l
  | _, [] => []
  | n + 1, r :: rs =>
    if toReport r then { r with inBatch := true } :: markBatch n rs else r :: markBatch (n + 1) rs

/-- Opens a report batch when the batch is CLOSED and records wait (R114). -/
def openBatch (s : State) : State :=
  if s.access.batchOpen ∨ s.access.unreported = 0 then s
  else
    s.onAccess fun u =>
      { u with batchOpen := true, batchNumber := (u.batchNumber + 1) % 256,
               purchases := markBatch 8 u.purchases }

/-- The reply body of REPORT FETCH: batch number, records, and the number that remain outside (R114); with nothing
to report the batch number held and no record (log entry 10). -/
def reportBody (s : State) : List Byte :=
  let l := s.access.purchases.filter (·.inBatch)
  u8 s.access.batchNumber ++ listBytes reportBytes l ++ u8 (s.access.unreported - l.length)

/-- REPORT FETCH (R114). -/
def execReportFetch (a : Agent) (s : State) : Host.Outcome State Fault Refusal :=
  .next <| takeRequest .reportFetch a (fun body s =>
    if body.isEmpty then reply a .ok (reportBody (openBatch s)) (openBatch s)
    else reply a .badField [] s) s

/-- Closes the open batch as acknowledged: its records are marked reported, and those that have ended are
removed (R115). The image is marked dirty at the change of the flags, and again by a removal, each when it is
made (R95, R102; log entry 14). -/
def clearBatch (a : Agent) (s : State) : State :=
  let batch := s.access.purchases.filter (·.inBatch)
  let named (r : PurchaseRecord) : Bool := batch.any fun q => isRecord q.service q.event r
  let t := markDirty .access
    (s.onAccess fun u =>
      { u with batchOpen := false,
               purchases := u.purchases.map fun r =>
                 if r.inBatch then { r with reported := true, inBatch := false } else r })
  let removed := batch.countP (recordEnded s)
  finish a .ok (fun _ => u8 batch.length ++ u8 removed) (removeRecords named t)

/-- REPORT CLEAR (R115). That a body of another length is refused BAD_FIELD also in CLOSED is the model's order
(log entry 29). -/
def execReportClear (a : Agent) (s : State) : Host.Outcome State Fault Refusal :=
  .next <| takeRequest .reportClear a (fun body s =>
    match fields [1] body with
    | some [n] =>
      if s.access.batchOpen = false then reply a .noBatch [] s
      else if n ≠ s.access.batchNumber then reply a .badBatch [] s
      else clearBatch a s
    | _ => reply a .badField [] s) s

/-! ## ENTITLEMENT READ (R117) -/

/-- The items every reply of ENTITLEMENT READ carries; the batch is CLOSED 1 or OPEN 2 with its number and
size. -/
def entitlementState (s : State) : List Byte :=
  let u := s.access
  u32 u.balance ++ u8 u.tiers.length ++ u8 u.purchases.length ++ u8 u.unreported ++
    (if u.batchOpen then u8 2 ++ u8 u.batchNumber ++ u8 (u.purchases.countP (·.inBatch))
    else u8 1 ++ u8 0 ++ u8 0) ++
    u8 s.time.state.code

/-- ENTITLEMENT READ (R117): part 1 TIERS, 2 PURCHASES. -/
def execEntitlementRead (a : Agent) (s : State) : Host.Outcome State Fault Refusal :=
  .next <| takeRequest .entitlementRead a (fun body s =>
    match fields [1, 1, 1] body with
    | some [part, start, n] =>
      if 63 < start ∨ n = 0 ∨ 16 < n then reply a .badField [] s
      else if part = 1 then
        let l := s.access.tiers.drop start
        reply a .ok (listBytes Tier.bytes (l.take n) ++ entitlementState s ++
          flagByte (decide (n < l.length))) s
      else if part = 2 then
        let l := s.access.purchases.drop start
        reply a .ok (listBytes recordBytes (l.take n) ++ entitlementState s ++
          flagByte (decide (n < l.length))) s
      else reply a .badField [] s
    | _ => reply a .badField [] s) s

end Sys2Proof.Machine
end

