-- ==== Sys2Proof/Machine/CardCommands.lean ====
section
/-! DEFINITION. Commands of the Card Link: insertion, removal and answer-to-reset (R119, R121), the card's
replies (R124 to R128), the expiries of the link (R119, R125, R127, R139), dispatch and clock stop (R123,
R139), and the requests CARD STATUS, CARD RESET, FAULT READ and FAULT CLEAR (R131 to R133). -/

namespace Sys2Proof.Machine

/-! ## The card itself -/

/-- CARD_INSERTION (R119): in ABSENT a reset is signalled. -/
def execCardInsertion (s : State) : Host.Outcome State Fault Refusal :=
  .next (if s.card.state = .absent then settle (signalReset s) else s)

/-- The Card Link with nothing in its tables and no failure counted; expiries are left (R121, R132). -/
def clearedLink (c : CardLink) : CardLink :=
  { c with outstanding := [], waiting := [], resting := Vector.replicate 4 none, failures := 0 }

/-- CARD_REMOVAL (R121): every transaction fails CARD_ABSENT, every key slot becomes EMPTY, and the card is
ABSENT. -/
def execCardRemoval (s : State) : Host.Outcome State Fault Refusal :=
  .next
    (if s.card.state = .absent then s
    else
      let t := forEach allPaths emptySlots (failAll s)
      settle (cardMove .absent
        (t.onCard fun c => { clearedLink c with resetExpiry := none, wakeExpiry := none })))

/-- ANSWER_TO_RESET (R119): in RESETTING the card becomes READY. -/
def execAnswerToReset (s : State) : Host.Outcome State Fault Refusal :=
  .next
    (if s.card.state = .resetting then
      settle (cardMove .ready (s.onCard fun c => { c with resetExpiry := none, failures := 0 }))
    else s)

/-- CARD_RESET_EXPIRY (R119): the card has not answered; RESET_TIMEOUT is captured and the card becomes
FAULTED (R129). -/
def execCardResetExpiry (s : State) : Host.Outcome State Fault Refusal :=
  .next
    (if s.card.state = .resetting ∧ s.reached s.card.resetExpiry then
      settle (becomeFaulted (captureFault .resetTimeout none none s))
    else s)

/-- CARD_WAKE_EXPIRY (R139): the card becomes READY. -/
def execCardWakeExpiry (s : State) : Host.Outcome State Fault Refusal :=
  .next
    (if s.card.state = .waking ∧ s.reached s.card.wakeExpiry then
      settle (cardMove .ready (s.onCard fun c => { c with wakeExpiry := none }))
    else s)

/-! ## Replies -/

/-- The outcome a DONE payload gives a transaction; none when it is malformed for its kind (R124). -/
def doneOutcome : Transaction → DonePayload → Option TxOutcome
  | .verify .., .verdict b => some (.verdict b)
  | .unwrap .., .key k => some (.key k)
  | _, _ => none

/-- A transaction answered by the card ends: its entry leaves the table and consecutive failures become 0
(R124, R126). -/
def answered (e : Entry) (o : TxOutcome) (s : State) : State :=
  endTx e.tx e.stale o ((dropEntry e.tag s).onCard fun c => { c with failures := 0 })

/-- CARD_DONE (R124). -/
def execCardDone (tag : Nat) (payload : DonePayload) (s : State) :
    Host.Outcome State Fault Refusal :=
  .next (takeReply tag (fun e s =>
    match doneOutcome e.tx payload with
    | some o => settle (answered e o s)
    | none => unexpectedReply tag s) s)

/-- CARD_BUSY_REPLY (R125): a re-send is due 20 ms later; the sixteenth BUSY fails the transaction. -/
def execCardBusyReply (tag : Nat) (s : State) : Host.Outcome State Fault Refusal :=
  .next (takeReply tag (fun e s =>
    if e.busy + 1 < 16 then
      updateEntry tag (fun x =>
        { x with busy := e.busy + 1, timeout := none, resend := some (s.localCount + 20) }) s
    else settle (failEntry e .cardBusy .cardBusy s)) s)

/-- CARD_REJECT (R126). -/
def execCardReject (tag reason : Nat) (s : State) : Host.Outcome State Fault Refusal :=
  .next (takeReply tag (fun e s => settle (answered e (.reject reason) s)) s)

/-- CARD_REPLY_UNKNOWN_KIND (R128): in READY and WAKING a reply whose kind is none of DONE, BUSY and REJECT
is unexpected. -/
def execCardReplyUnknownKind (tag : Nat) (s : State) : Host.Outcome State Fault Refusal :=
  .next
    (if s.card.state = .ready ∨ s.card.state = .waking then unexpectedReply tag s else s)

/-! ## Expiries and dispatch -/

/-- RESEND_EXPIRY (R125): the same transaction is sent again with the same tag. -/
def execResendExpiry (tag : Nat) (s : State) : Host.Outcome State Fault Refusal :=
  .next
    (match s.card.entry tag with
    | none => s
    | some e =>
      if s.card.state = .ready ∧ s.reached e.resend then
        send (.cardSend tag e.tx)
          (updateEntry tag (fun x =>
            { x with sendCount := s.localCount, timeout := some (s.localCount + 400),
                     resend := none }) s)
      else s)

/-- TRANSACTION_TIMEOUT (R127): the transaction fails CARD_TIMEOUT and its tag rests 400 ms. -/
def execTransactionTimeout (tag : Nat) (s : State) : Host.Outcome State Fault Refusal :=
  .next
    (match s.card.entry tag with
    | none => s
    | some e =>
      if s.reached e.timeout then
        settle (failEntry e .cardTimeout .cardTimeout (setRest tag (some (s.localCount + 400)) s))
      else s)

/-- TAG_REST_END (R127): the tag is free again and the queue is dispatched. -/
def execTagRestEnd (tag : Fin 4) (s : State) : Host.Outcome State Fault Refusal :=
  .next (if s.reached (s.card.resting.get tag) then settle (setRest tag.val none s) else s)

/-- TRANSACTION_DISPATCH (R123): the waiting queue is dispatched while it can be. -/
def execTransactionDispatch (s : State) : Host.Outcome State Fault Refusal :=
  .next (settle (dispatch s))

/-- CARD_CLOCK_STOP (R139): in standby an idle READY card's clock is stopped. -/
def execCardClockStop (s : State) : Host.Outcome State Fault Refusal :=
  .next (settle (idleCheck s))

/-! ## Requests -/

/-- The kind of an origin: VERIFY 1, UNWRAP 2. -/
def kindCode : Origin → Nat
  | .verify .. => 1
  | .unwrap .. => 2

/-- Where a transaction comes from: link and link tag, or path and phase (R122). -/
def placeBytes : Origin → List Byte
  | .verify l t => u8 (agentNumber l) ++ u8 t
  | .unwrap p ph => u8 p.val ++ u8 (Phase.code ph)

/-- The kind and origin of a transaction. -/
def originBytes (o : Origin) : List Byte := u8 (kindCode o) ++ placeBytes o

/-- The key-message version of an UNWRAP. -/
def versionOf : Transaction → Option Nat
  | .verify .. => none
  | .unwrap _ _ v _ _ => some v

/-- A tag in the reply of CARD STATUS: 1 with its outstanding entry, 2 free, 3 resting with the ms left (R131; log
entry 10). -/
def tagBytes (s : State) (t : Fin 4) : List Byte :=
  match s.card.entry t.val, s.card.resting.get t with
  | some e, _ =>
    u8 1 ++ originBytes e.tx.origin ++ optBytes 1 (versionOf e.tx) ++ flagByte e.stale ++
      u8 e.busy ++ u64 (s.localCount - e.sendCount)
  | none, some r => u8 3 ++ u64 (r - s.localCount)
  | none, none => u8 2

/-- The reply body of CARD STATUS (R131). -/
def cardStatusBody (s : State) : List Byte :=
  let c := s.card
  u8 c.state.code ++ u8 c.failures ++
    optBytes 8 ((c.resetExpiry <|> c.wakeExpiry).map fun e => e - s.localCount) ++
    allTags.flatMap (tagBytes s) ++ listBytes (fun t => originBytes t.origin) c.waiting ++
    flagByte c.capture.isSome

/-- CARD STATUS (R131). -/
def execCardStatus (a : Agent) (s : State) : Host.Outcome State Fault Refusal :=
  .next <| takeRequest .cardStatus a (fun body s =>
    if body.isEmpty then reply a .ok (cardStatusBody s) s else reply a .badField [] s) s

/-- CARD RESET (R132). That a body that is not empty is refused BAD_FIELD also in ABSENT is the model's order
(log entry 29). -/
def execCardReset (a : Agent) (s : State) : Host.Outcome State Fault Refusal :=
  .next <| takeRequest .cardReset a (fun body s =>
    if body.isEmpty then
      if s.card.state = .absent then reply a .cardAbsent [] s
      else finish a .ok (fun _ => []) (signalReset ((failAll s).onCard clearedLink))
    else reply a .badField [] s) s

/-- The fault capture in a reply: EMPTY 1, or CAPTURED 2 with the fields of R130 (log entry 10). -/
def captureBytes : Option Capture → List Byte
  | none => u8 1
  | some c =>
    u8 2 ++ u8 c.fault.code ++ optBytes 1 c.tag ++
      (match c.concern with
      | none => u8 0 ++ u8 0 ++ u8 0 ++ u16 0 ++ u8 0 ++ u8 0
      | some (o, stale) =>
        u8 1 ++ u8 (kindCode o) ++ u8 1 ++ placeBytes o ++ u8 1 ++ flagByte stale) ++
      u64 c.count ++ flagByte c.lost

/-- FAULT READ (R133). -/
def execFaultRead (a : Agent) (s : State) : Host.Outcome State Fault Refusal :=
  .next <| takeRequest .faultRead a (fun body s =>
    if body.isEmpty then reply a .ok (captureBytes s.card.capture) s
    else reply a .badField [] s) s

/-- FAULT CLEAR (R133): the reply carries the capture as it stood. -/
def execFaultClear (a : Agent) (s : State) : Host.Outcome State Fault Refusal :=
  .next <| takeRequest .faultClear a (fun body s =>
    if body.isEmpty then
      reply a .ok (captureBytes s.card.capture) (s.onCard fun c => { c with capture := none })
    else reply a .badField [] s) s

end Sys2Proof.Machine
end

