-- ==== Sys2Proof/Machine/GuideCommands.lean ====
section
/-! DEFINITION. Commands of the Guide Store: GUIDE LOAD (R44 to R48), GUIDE DROP (R49), GUIDE READ (R52) and
the sweep expiry (R50). -/

namespace Sys2Proof.Machine

/-! ## Loading (R44 to R48) -/

/-- An event of a body of GUIDE LOAD, with the service it is for; none inside when its duration or rating
is out of range (R44). A duration of 0 is in range here and dropped later (R45). Behind the mark 0 the
rating is not read (log entry 30). -/
def takeEvent (sid : Nat) (bs : List Byte) : Option (Option GuideEvent × List Byte) :=
  match takeFields [2, 4, 4, 1, 1, 2, 4] bs with
  | some ([i, st, d, mark, rating, price, title], rest) =>
    let r : Option (Option Nat) :=
      match mark with
      | 0 => some none
      | 1 => if rating ≤ 7 then some (some rating) else none
      | _ => none
    some (if d ≤ 86400 then
        r.map fun x => ⟨sid, i, st, d, x, price, BitVec.ofNat 32 title⟩
      else none, rest)
  | _ => none

/-- The counts of a load (R48), with the services it affects (R42). -/
structure LoadCount where
  inserted : Nat
  zero     : Nat
  ended    : Nat
  beyond   : Nat
  noRoom   : Nat
  replaced : Nat
  evicted  : Nat
  affected : List Nat
  deriving DecidableEq, Repr

/-- The counts before the first event. -/
def LoadCount.none : LoadCount := ⟨0, 0, 0, 0, 0, 0, 0, []⟩

/-- Whether an event stands later than another in the order of eviction: by start, then by service id
(R47). -/
def standsLater (e f : GuideEvent) : Bool :=
  decide (f.start < e.start ∨ (f.start = e.start ∧ f.service < e.service))

/-- The event of a pool that stands latest (R47). -/
def latestOf : List GuideEvent → Option GuideEvent
  | [] => none
  | e :: es =>
    match latestOf es with
    | none => some e
    | some f => if standsLater e f then some e else some f

/-- Places an event in the pool, in the order of service id and start (R38, R47). -/
def placeEvent (e : GuideEvent) (pool : List GuideEvent) : List GuideEvent :=
  insertBy (fun a b =>
    decide (a.service < b.service ∨ (a.service = b.service ∧ a.start < b.start))) e pool

/-- Whether an event of the pool gives way to a new one: it is of its service and overlaps it or carries
its event id (R46). -/
def givesWay (e f : GuideEvent) : Bool :=
  f.service == e.service && (e.overlaps f || f.id == e.id)

/-- Whether two events are the same entry of the pool; an event is named by its service id and event id
(R39). -/
def sameEvent (e f : GuideEvent) : Bool := e.service == f.service && e.id == f.id

/-- Clears an event's place (R46) and inserts it, with an eviction when the pool is full (R47). -/
def insertEvent (e : GuideEvent) (k : LoadCount) (pool : List GuideEvent) :
    LoadCount × List GuideEvent :=
  let gone := pool.countP (givesWay e)
  let rest := pool.filter fun f => !givesWay e f
  let k := { k with replaced := k.replaced + gone,
                    affected := if gone = 0 then k.affected else k.affected ++ [e.service] }
  if rest.length < 4096 then
    ({ k with inserted := k.inserted + 1, affected := k.affected ++ [e.service] }, placeEvent e rest)
  else
    match latestOf rest with
    | some f =>
      if standsLater f e then
        ({ k with inserted := k.inserted + 1, evicted := k.evicted + 1,
                  affected := k.affected ++ [f.service, e.service] },
          placeEvent e (rest.filter fun g => !sameEvent g f))
      else ({ k with noRoom := k.noRoom + 1 }, rest)
    | none => ({ k with noRoom := k.noRoom + 1 }, rest)

/-- Takes one event of an accepted load: the tests of R45 and then its place. `now` is the present network
second, or none while the Time Base is UNSET. -/
def loadEvent (now : Option NetSec) (acc : LoadCount × List GuideEvent) (e : GuideEvent) :
    LoadCount × List GuideEvent :=
  let k := acc.1
  if e.duration = 0 then ({ k with zero := k.zero + 1 }, acc.2)
  else if now.any (fun t => decide (e.stop ≤ t)) then ({ k with ended := k.ended + 1 }, acc.2)
  else if now.any (fun t => decide (t + 1209600 < e.start)) then
    ({ k with beyond := k.beyond + 1 }, acc.2)
  else insertEvent e k acc.2

/-- The reply body of GUIDE LOAD (R48). -/
def loadBody (k : LoadCount) (s : State) : List Byte :=
  u8 k.inserted ++ u8 (k.zero + k.ended + k.beyond) ++ u8 k.zero ++ u8 k.ended ++ u8 k.beyond ++
    u8 k.noRoom ++ u16 k.replaced ++ u8 k.evicted ++ u16 s.guide.pool.length

/-- The position, counted from 1, of the first event out of range. -/
def firstOffending : Nat → List (Option GuideEvent) → Option Nat
  | _, [] => none
  | n, x :: xs => if x.isSome then firstOffending (n + 1) xs else some n

/-- Carries out an accepted GUIDE LOAD (R45 to R48). -/
def loadEvents (a : Agent) (es : List GuideEvent) (s : State) : State :=
  let r := es.foldl (loadEvent (if s.timeKnown then some s.netSec else none))
    (LoadCount.none, s.guide.pool)
  finish a .ok (loadBody r.1)
    (guideChanged r.1.affected (s.setGuide { s.guide with pool := r.2 }))

/-- GUIDE LOAD (R44). A refusal carries the position of the first offending event, or absent; absent also when
the body's length does not fit (log entry 10). -/
def execGuideLoad (a : Agent) (s : State) : Host.Outcome State Fault Refusal :=
  .next <| takeRequest .guideLoad a (fun body s =>
    match takeFields [2] body with
    | some ([sid], rest) =>
      match takeList (takeEvent sid) rest with
      | some (xs, []) =>
        if sid = 0 ∨ xs.length = 0 ∨ 16 < xs.length then reply a .badField (optBytes 1 none) s
        else
          match firstOffending 1 xs with
          | some n => reply a .badField (optBytes 1 (some n)) s
          | none => loadEvents a (xs.filterMap id) s
      | _ => reply a .badField (optBytes 1 none) s
    | _ => reply a .badField (optBytes 1 none) s) s

/-! ## Removing -/

/-- GUIDE DROP (R49). -/
def execGuideDrop (a : Agent) (s : State) : Host.Outcome State Fault Refusal :=
  .next <| takeRequest .guideDrop a (fun body s =>
    match fields [2, 2] body with
    | some [sid, eid] =>
      if sid = 0 then reply a .badField [] s
      else if (s.guide.event sid eid).isNone then reply a .noEvent [] s
      else
        finish a .ok (fun _ => [])
          (guideChanged [sid] (s.setGuide
            { s.guide with pool := s.guide.pool.filter fun e => !(e.service == sid && e.id == eid) }))
    | _ => reply a .badField [] s) s

/-- SWEEP_EXPIRY (R50): the next sweep expiry is 60,000 ms later, and a sweep is taken. -/
def execSweepExpiry (s : State) : Host.Outcome State Fault Refusal :=
  .next
    (if s.guide.sweepExpiry ≤ s.localCount then
      settle (sweep (s.setGuide { s.guide with sweepExpiry := s.localCount + 60000 }))
    else s)

/-! ## Reading (R52) -/

/-- An event in the reply of GUIDE READ. -/
def guideEventBytes (s : State) (e : GuideEvent) : List Byte :=
  let effective : Option Nat :=
    match e.rating with
    | some r => some r
    | none => (s.lineup.service e.service).map (·.rating)
  u16 e.id ++ u32 e.start ++ u32 e.duration ++ optBytes 1 e.rating ++ optBytes 1 effective ++
    u16 e.price ++ u32 e.title.toNat ++ flagByte (s.timeKnown && e.covers s.netSec)

/-- The reply body of GUIDE READ: the events from a network second on, up to a count. -/
def guideReadBody (s : State) (sid start n : Nat) : List Byte :=
  let l := s.guide.ofService sid
  let found := l.filter fun e => decide (start < e.stop)
  listBytes (guideEventBytes s) (found.take n) ++ u16 l.length ++ u16 s.guide.pool.length ++
    flagByte (s.lineup.service sid).isSome ++ flagByte (decide (n < found.length))

/-- GUIDE READ (R52). -/
def execGuideRead (a : Agent) (s : State) : Host.Outcome State Fault Refusal :=
  .next <| takeRequest .guideRead a (fun body s =>
    match fields [2, 4, 1] body with
    | some [sid, start, n] =>
      if sid = 0 ∨ n = 0 ∨ 16 < n then reply a .badField [] s
      else reply a .ok (guideReadBody s sid start n) s
    | _ => reply a .badField [] s) s

end Sys2Proof.Machine
end

