-- ==== Sys2Proof/Machine/InputCommands.lean ====
section
/-! DEFINITION. Commands of the Carrier Arbiter: the tuners' reports (R55, R56), the tune timeout (R57), the
re-tune expiry (R58), the service of the claim queue (R66) and INPUT READ (R69). -/

namespace Sys2Proof.Machine

/-- Whether a report is taken: the input is not FREE and the report's sequence equals its tune sequence
(R55). -/
def takesReport (i : InputNo) (seq : Nat) (s : State) : Bool :=
  (s.input i).state != .free && (s.input i).sequence == seq

/-- TUNER_LOCK (R56): in TUNING and in LOST the input becomes LOCKED. -/
def execTunerLock (i : InputNo) (seq : Nat) (s : State) : Host.Outcome State Fault Refusal :=
  .next
    (if takesReport i seq s then
      match (s.input i).state with
      | .tuning => settle (lockInput i s)
      | .lost => settle (lockInput i s)
      | .locked => s
      | .free => s
    else s)

/-- TUNER_NO_SIGNAL (R56): in TUNING and in LOCKED the input becomes LOST. -/
def execTunerNoSignal (i : InputNo) (seq : Nat) (s : State) : Host.Outcome State Fault Refusal :=
  .next
    (if takesReport i seq s then
      match (s.input i).state with
      | .tuning => settle (loseInput i s)
      | .locked => settle (loseInput i s)
      | .lost => s
      | .free => s
    else s)

/-- TUNER_UNLOCK (R56): in LOCKED the input becomes LOST; in TUNING an UNLOCK is out of turn. -/
def execTunerUnlock (i : InputNo) (seq : Nat) (s : State) : Host.Outcome State Fault Refusal :=
  .next
    (if takesReport i seq s then
      match (s.input i).state with
      | .locked => settle (loseInput i s)
      | .tuning => s
      | .lost => s
      | .free => s
    else s)

/-- TUNE_TIMEOUT (R57): an input in TUNING whose timeout is reached becomes LOST. -/
def execTuneTimeout (i : InputNo) (s : State) : Host.Outcome State Fault Refusal :=
  .next
    (if (s.input i).state = .tuning ∧ s.reached (s.input i).tuneTimeout then settle (loseInput i s)
    else s)

/-- RETUNE_EXPIRY (R58): an input in LOST is tuned again to its carrier and stays LOST. -/
def execRetuneExpiry (i : InputNo) (s : State) : Host.Outcome State Fault Refusal :=
  .next
    (if (s.input i).state = .lost ∧ s.reached (s.input i).retune then
      match (s.input i).carrier with
      | some c =>
        (sendTune i c s).onInput i fun x => { x with retune := some (s.localCount + 5000) }
      | none => s
    else s)

/-- CLAIM_QUEUE_SERVICE (R66): while the queue is not empty and an input is FREE, the path at the head
claims the carrier of its snapshot. -/
def execClaimQueueService (s : State) : Host.Outcome State Fault Refusal :=
  .next (settle (serveQueue s))

/-- An input's part of the reply of INPUT READ (R69). -/
def inputBytes (s : State) (x : CarrierInput) : List Byte :=
  u8 x.state.code ++ optBytes 1 x.carrier ++ listBytes (fun p => u8 p.val) x.holders ++
    u8 x.sequence ++ u64 (s.localCount - x.tuneStart) ++
    optBytes 8 (x.tuneTimeout.map fun e => e - s.localCount) ++
    optBytes 8 (x.retune.map fun e => e - s.localCount)

/-- INPUT READ (R69). -/
def execInputRead (a : Agent) (s : State) : Host.Outcome State Fault Refusal :=
  .next <| takeRequest .inputRead a (fun body s =>
    if body.isEmpty then
      reply a .ok
        (allInputs.flatMap (fun i => inputBytes s (s.input i)) ++
          listBytes (fun p => u8 p.val) s.claimQueue) s
    else reply a .badField [] s) s

end Sys2Proof.Machine
end

