-- ==== Sys2Proof/Machine/JobCommands.lean ====
section
/-! DEFINITION. Commands of the Job Scheduler: JOB ADD (R158, R159), JOB REMOVE and JOB LIST (R160), starts
(R161), the grace expiry (R163) and the end expiry (R165). -/

namespace Sys2Proof.Machine

/-! ## JOB ADD (R158) -/

/-- The trigger fields of a JOB ADD: a start and an end, or an event id. -/
inductive TriggerField where
  | time (start stop : Nat)
  | event (id : Nat)
  deriving DecidableEq, Repr

/-- The fields of a JOB ADD; the PIN is read only when the buy flag is 1. -/
structure JobRequest where
  service   : Nat
  trigger   : TriggerField
  padBefore : Nat
  padAfter  : Nat
  buy       : Bool
  pin       : Pin
  deriving DecidableEq, Repr

/-- The trigger of a body by its kind, 1 TIME or 2 EVENT, and what follows it (R158). The start and end of a TIME
trigger take four bytes each: log entry 10, the model's choice. -/
def takeTrigger (kind : Nat) (bs : List Byte) : Option (TriggerField × List Byte) :=
  match kind with
  | 1 =>
    match takeFields [4, 4] bs with
    | some ([a, b], rest) => some (.time a b, rest)
    | _ => none
  | 2 =>
    match takeFields [2] bs with
    | some ([e], rest) => some (.event e, rest)
    | _ => none
  | _ => none

/-- Whether a trigger is TIME. -/
def TriggerField.isTime : TriggerField → Bool
  | .time .. => true
  | .event _ => false

/-- The fields of the body of a JOB ADD, or none when its length does not fit or a field is out of range
(R158, order 1). -/
def jobRequestOf (body : List Byte) : Option JobRequest :=
  match takeFields [2, 1] body with
  | some ([sid, kind], rest) =>
    match takeTrigger kind rest with
    | some (t, rest) =>
      match fields [2, 2, 1, 1, 1, 1, 1] rest with
      | some [pb, pa, f, d1, d2, d3, d4] =>
        match flagOf f, pinOf d1 d2 d3 d4 with
        | some true, some pin =>
          if sid = 0 ∨ t.isTime = true then none else some ⟨sid, t, pb, pa, true, pin⟩
        | some false, _ => if sid = 0 then none else some ⟨sid, t, pb, pa, false, pinZero⟩
        | _, _ => none
      | _ => none
    | none => none
  | _ => none

/-- The first id after the last job id, in the cycle 1..255, that no record holds (R159). -/
def nextJobId (last : Nat) (l : List Job) : Nat :=
  (((List.range 255).map fun k => (last + k) % 255 + 1).find? fun i =>
    l.all fun j => j.id != i).getD 0

/-- The finished record that stands first in the list. -/
def firstFinished (l : List Job) : Option Job := l.find? Job.finished

/-- The record of a request with its times, its pads clamped, before it has an id (R158, R159). -/
def newJob (r : JobRequest) (start stop : NetSec) : Job :=
  { id := 0, service := r.service
    trigger := match r.trigger with
      | .time .. => .time
      | .event e => .event e
    start := start, stop := stop, padBefore := min r.padBefore 1800, padAfter := min r.padAfter 1800
    buy := r.buy, state := .scheduled, actualStart := none, interruptions := 0, path := none
    startDue := false, startExpiry := none, endExpiry := none, graceExpiry := none }

/-- The job list with room made for a new record, and the id of a record dropped for it (R159). -/
def roomFor (l : List Job) : List Job × Option Nat :=
  if 32 ≤ l.length then
    match firstFinished l with
    | some j => (l.filter fun k => k.id != j.id, some j.id)
    | none => (l, none)
  else (l, none)

/-- Enters a job under an id, with its start expiry, and starts it at once when its effective start is
reached (R159). -/
def enterJob (j : Job) (id : Nat) (l : List Job) (s : State) : State :=
  let k : Job := { j with id := id, startExpiry := s.expiryIfKnown j.effStart }
  let t := jobChanged (s.setJobs { list := placeJob k l, lastId := id })
  if j.effStart ≤ (s.netSec : Int) then startJob id t else t

/-- The reply body of JOB ADD: id, effective start and end, state and reason, and a record dropped. -/
def jobAddBody (id : Nat) (dropped : Option Nat) (s : State) : List Byte :=
  match s.job id with
  | none => []
  | some j =>
    u8 id ++ s64 j.effStart ++ s64 j.effStop ++ u8 j.state.code ++ optBytes 1 j.state.reasonCode ++
      optBytes 1 dropped

/-- Carries out an accepted JOB ADD (R159). -/
def addJob (a : Agent) (clamped : Bool) (j : Job) (s : State) : State :=
  let room := roomFor s.jobs.list
  let id := nextJobId s.jobs.lastId room.1
  finish a (if clamped then .okClamped else .ok) (jobAddBody id room.2) (enterJob j id room.1 s)

/-- Orders 9 to 11 of a JOB ADD (R158). What a right PIN has reset stays so when order 10 or 11 refuses (R142; log
entry 31). -/
def buyAndAdd (a : Agent) (r : JobRequest) (price : Option Nat) (j : Job) (s : State) : State :=
  let clamped := decide (1800 < r.padBefore ∨ 1800 < r.padAfter)
  let p := if r.buy then pinCheck r.pin [s.parental.masterPin] s else (.passed, s)
  match p.1.refusal with
  | some (st, b) => reply a st b p.2
  | none =>
    let t := p.2
    let forBuy := (t.lineup.service j.service).any (fun v => decide (v.access = .event)) &&
      price.any fun c => decide (0 < c)
    if r.buy && !forBuy then reply a .notForSale [] t
    else if 32 ≤ t.jobs.list.length ∧ (firstFinished t.jobs.list).isNone then
      reply a .listFull [] t
    else addJob a clamped j t

/-- Orders 5 to 8 of a JOB ADD of given times (R158). -/
def admitJob (a : Agent) (r : JobRequest) (price : Option Nat) (start stop : NetSec) (s : State) :
    State :=
  let j := newJob r start stop
  if stop ≤ start then reply a .badField [] s
  else if stop + j.padAfter ≤ s.netSec then reply a .tooLate [] s
  else if 28800 < j.effStop - j.effStart then reply a .tooLong [] s
  else if conflictFree s.jobs.list 0 j.effStart j.effStop = false then reply a .conflict [] s
  else buyAndAdd a r price j s

/-- JOB ADD (R158). -/
def execJobAdd (a : Agent) (s : State) : Host.Outcome State Fault Refusal :=
  .next <| takeRequest .jobAdd a (fun body s =>
    match jobRequestOf body with
    | none => reply a .badField [] s
    | some r =>
      if s.timeKnown = false then reply a .timeUnknown [] s
      else if (s.lineup.service r.service).isNone then reply a .noService [] s
      else
        match r.trigger with
        | .time x y => admitJob a r none x y s
        | .event e =>
          match s.guide.event r.service e with
          | none => reply a .noEvent [] s
          | some g => admitJob a r (some g.price) g.start g.stop s) s

/-! ## JOB REMOVE and JOB LIST (R160) -/

/-- Removes a job, or cancels it when ACTIVE (R160). -/
def removeJob (j : Job) (s : State) : State :=
  if j.state = .active then endJob j (.failed .cancelled) s
  else jobChanged (s.setJobs { s.jobs with list := s.jobs.list.filter fun k => k.id != j.id })

/-- JOB REMOVE (R160): the reply carries the state the job had, without its reason (log entry 10). -/
def execJobRemove (a : Agent) (s : State) : Host.Outcome State Fault Refusal :=
  .next <| takeRequest .jobRemove a (fun body s =>
    match fields [1] body with
    | some [id] =>
      if id = 0 then reply a .badField [] s
      else
        match s.job id with
        | none => reply a .noJob [] s
        | some j => finish a .ok (fun _ => u8 j.state.code) (removeJob j s)
    | _ => reply a .badField [] s) s

/-- A job in the reply of JOB LIST (R160), its start, end and actual start in four bytes as in `Job.storedBytes` (log
entry 10: the model's choice). -/
def jobBytes (s : State) (j : Job) : List Byte :=
  j.storedBytes ++ s64 j.effStart ++ s64 j.effStop ++ optBytes 1 (j.path.map (·.val)) ++
    flagByte j.startDue ++ optBytes 8 (j.graceExpiry.map fun e => e - s.localCount)

/-- The reply body of JOB LIST, 512 bytes at most. -/
def jobListBody (s : State) (start n : Nat) : List Byte :=
  let l := (s.jobs.list.drop start).map (jobBytes s)
  let t := fitting 508 (l.take n)
  u8 t.1 ++ t.2 ++ u8 s.jobs.list.length ++ u8 s.time.state.code ++
    flagByte (decide (t.1 < l.length))

/-- JOB LIST (R160). -/
def execJobList (a : Agent) (s : State) : Host.Outcome State Fault Refusal :=
  .next <| takeRequest .jobList a (fun body s =>
    match fields [1, 1] body with
    | some [start, n] =>
      if 31 < start ∨ n = 0 ∨ 16 < n then reply a .badField [] s
      else reply a .ok (jobListBody s start n) s
    | _ => reply a .badField [] s) s

/-! ## Starts and expiries -/

/-- JOB_START (R161): the start expiry of a SCHEDULED job is reached. -/
def execJobStart (id : Nat) (s : State) : Host.Outcome State Fault Refusal :=
  .next
    (match s.job id with
    | none => s
    | some j => if s.reached j.startExpiry then settle (startJob id s) else s)

/-- START_DUE_JOB_START (R161): a start due job starts on an IDLE record path. -/
def execStartDueJobStart (id : Nat) (s : State) : Host.Outcome State Fault Refusal :=
  .next (settle (startDueJob id (serveQueue s)))

/-- What the end of a job's start grace does: a path then DENIED fails the job with its reason (R163). -/
def graceOver (j : Job) (s : State) : State :=
  let t := updateJob j.id (fun k => { k with graceExpiry := none }) s
  match j.path.map fun p => (s.path p).state with
  | some (.denied r) => endJob j (.failed (.access r)) t
  | _ => t

/-- GRACE_EXPIRY (R163). -/
def execGraceExpiry (id : Nat) (s : State) : Host.Outcome State Fault Refusal :=
  .next
    (match s.job id with
    | none => s
    | some j => if s.reached j.graceExpiry then settle (graceOver j s) else s)

/-- JOB_END_EXPIRY (R165, R161): an ACTIVE job ends COMPLETE, a start due one becomes MISSED. -/
def execJobEndExpiry (id : Nat) (s : State) : Host.Outcome State Fault Refusal :=
  .next
    (match s.job id with
    | none => s
    | some j => if s.reached j.endExpiry then settle (jobEndReached j s) else s)

end Sys2Proof.Machine
end

