-- ==== Sys2Proof/Machine/LineupCommands.lean ====
section
/-! DEFINITION. Commands of the Lineup Table: LINEUP BEGIN (R26), LINEUP ADD (R27, R28), LINEUP END (R29 to
R31) and LINEUP READ (R37), with the reading of the records a body carries (R185). -/

namespace Sys2Proof.Machine

/-! ## Records in a body -/

/-- A carrier record of a body, judged: the record, or the field that breaks its condition (R28). -/
def takeCarrier (bs : List Byte) : Option (Except Nat Carrier × List Byte) :=
  match takeFields [1, 4, 1, 1] bs with
  | some ([i, f, m, r], rest) =>
    let c : Carrier := ⟨i, f, m, r⟩
    some (match carrierError c with
      | none => .ok c
      | some n => .error n, rest)
  | _ => none

/-- The language of a component: a mark and three letters (R185). Behind the mark 0 the letters are not read,
whatever they are (log entry 30). -/
def languageOf (mark : Nat) (letters : List Byte) : Option (Option (List Byte)) :=
  match mark with
  | 0 => some none
  | 1 => some (some letters)
  | _ => none

/-- A component of a body; none inside when its kind or its language mark is unknown. -/
def takeComponent (bs : List Byte) : Option (Option Component × List Byte) :=
  match takeFields [1, 2, 1] bs with
  | some ([k, t, m], rest) =>
    if rest.length < 3 then none
    else
      some (match ComponentKind.ofCode k, languageOf m (rest.take 3) with
        | some kind, some lang => some ⟨kind, t, lang⟩
        | _, _ => none, rest.drop 3)
  | _ => none

/-- The access class of a body: FREE 1, TIER 2 with its tier, EVENT 3. The tier byte is read for TIER alone
(log entries 10 and 30). -/
def accessClassOf (cls tier : Nat) : Option AccessClass :=
  match cls with
  | 1 => some .free
  | 2 => some (.tier tier)
  | 3 => some .event
  | _ => none

/-- A mark and a value as a value that may be absent (R185). Behind the mark 0 the value is not read, whatever
it is (log entry 30). -/
def presentOf (mark value : Nat) : Option (Option Nat) :=
  match mark with
  | 0 => some none
  | 1 => some (some value)
  | _ => none

/-- A service record of a body, judged: the record, or the first field that breaks its condition, the
HIDDEN flag counting as field 9 (R28; log entry 11). -/
def judgeService (v : Service) (componentsKnown : Bool) (cls : Option AccessClass)
    (key : Option (Option Nat)) (hidden : Option Bool) : Except Nat Service :=
  let w : Service :=
    { v with access := cls.getD .free, keyTag := key.getD none, hidden := hidden.getD false }
  let known : List (Nat × Bool) :=
    [(5, componentsKnown), (6, cls.isSome), (7, key.isSome), (9, hidden.isSome)]
  let bad := (firstFailing known).toList ++ (serviceError w).toList
  match leastOf bad with
  | none => .ok w
  | some n => .error n

/-- Reads a service record off a body, its fields in the order of R24. -/
def takeService (bs : List Byte) : Option (Except Nat Service × List Byte) :=
  match takeFields [2, 2, 1, 2] bs with
  | some ([i, ch, c, pr], rest) =>
    match takeList takeComponent rest with
    | some (cs, rest) =>
      match takeFields [1, 1, 1, 2, 1, 1] rest with
      | some ([cls, tier, mark, key, rating, hidden], rest) =>
        let v : Service :=
          { id := i, channel := ch, carrier := c, programme := pr, components := cs.filterMap id,
            access := .free, keyTag := none, rating := rating, hidden := false }
        some (judgeService v (cs.all (·.isSome)) (accessClassOf cls tier) (presentOf mark key)
          (flagOf hidden), rest)
      | _ => none
    | none => none
  | _ => none

/-- The records of a list that are all good, or the position (counted from 1) and field of the first that
is not (R28). -/
def allGood {α : Type} : Nat → List (Except Nat α) → Except (Nat × Nat) (List α)
  | _, [] => .ok []
  | n, x :: xs =>
    match x with
    | .error f => .error (n, f)
    | .ok r =>
      match allGood (n + 1) xs with
      | .ok rs => .ok (r :: rs)
      | .error e => .error e

/-- What a body of records spells: none when its length does not fit. A body of no records is read as one of
no records (log entry 30). -/
def recordsOf {α : Type} (f : List Byte → Option (Except Nat α × List Byte)) (bs : List Byte) :
    Option (Except (Nat × Nat) (List α)) :=
  match takeList f bs with
  | some (xs, []) => some (allGood 1 xs)
  | _ => none

/-! ## Loading -/

/-- LINEUP BEGIN (R26). That a body of another length is refused BAD_FIELD also in QUIESCING is the model's
order (log entry 29). -/
def execLineupBegin (a : Agent) (s : State) : Host.Outcome State Fault Refusal :=
  .next <| takeRequest .lineupBegin a (fun body s =>
    match fields [2] body with
    | some [v] =>
      if s.power.state = .quiescing then reply a .asleep [] s
      else reply a .ok (flagByte s.staging.isSome) (s.setStaging (some ⟨v, [], []⟩))
    | _ => reply a .badField [] s) s

/-- Places carrier records among the staged ones, in order of carrier id (R27). -/
def stageCarriers (cs : List Carrier) (l : Lineup) : Lineup :=
  { l with carriers := cs.foldl (fun xs c => insertBy (fun a b => decide (a.id < b.id)) c xs) l.carriers }

/-- Places service records among the staged ones, in order of channel number (R27). -/
def stageServices (vs : List Service) (l : Lineup) : Lineup :=
  { l with services :=
      vs.foldl (fun xs v => insertBy (fun a b => decide (a.channel < b.channel)) v xs) l.services }

/-- The answer to a LINEUP ADD that would leave a staging lineup (R27, order 3). -/
def addStaged (a : Agent) (l : Lineup) (s : State) : State :=
  if 96 < l.carriers.length ∨ 768 < l.services.length then reply a .tableFull [] s
  else reply a .ok (u8 l.carriers.length ++ u16 l.services.length) (s.setStaging (some l))

/-- The refusal of a LINEUP ADD by its record's position and field (R28). -/
def refuseRecord (a : Agent) (e : Nat × Nat) (s : State) : State :=
  reply a .badField (u8 e.1 ++ u8 e.2) s

/-- LINEUP ADD (R27): kind 1 carriers, 2 services. That a BAD_FIELD for another kind, or for a body whose length
does not fit, carries no body is the model's choice (log entry 10). -/
def execLineupAdd (a : Agent) (s : State) : Host.Outcome State Fault Refusal :=
  .next <| takeRequest .lineupAdd a (fun body s =>
    match s.staging with
    | none => reply a .noStaging [] s
    | some l =>
      match takeFields [1] body with
      | some ([1], rest) =>
        match recordsOf takeCarrier rest with
        | some (.ok cs) => addStaged a (stageCarriers cs l) s
        | some (.error e) => refuseRecord a e s
        | none => reply a .badField [] s
      | some ([2], rest) =>
        match recordsOf takeService rest with
        | some (.ok vs) => addStaged a (stageServices vs l) s
        | some (.error e) => refuseRecord a e s
        | none => reply a .badField [] s
      | _ => reply a .badField [] s) s

/-- LINEUP END (R29, R30, R31): the reply's outcome is COMMITTED 1 or HELD 2 (log entry 11). That a body that is
not empty is refused BAD_FIELD also in CLOSED is the model's order (log entry 29). -/
def execLineupEnd (a : Agent) (s : State) : Host.Outcome State Fault Refusal :=
  .next <| takeRequest .lineupEnd a (fun body s =>
    if body.isEmpty then
      match s.staging with
      | none => reply a .noStaging [] s
      | some l =>
        let t := s.setStaging none
        match lineupFailure l with
        | some (n, i) => finish a .badLineup (fun _ => u8 n ++ u16 i) t
        | none =>
          if s.power.state = .quiescing then
            finish a .ok (fun _ => u8 2) (t.setPower { t.power with held := some l })
          else
            finish a .ok (fun _ => u8 1 ++ u8 l.carriers.length ++ u16 l.services.length)
              (commitLineup l t)
    else reply a .badField [] s) s

/-! ## Reading (R37) -/

/-- The items every reply of LINEUP READ carries after its records (R37): staging is CLOSED 1 or OPEN 2
with its version and numbers. -/
def lineupState (s : State) : List Byte :=
  u16 s.lineup.version ++ u8 s.lineup.carriers.length ++ u16 s.lineup.services.length ++
    (match s.staging with
    | none => u8 1 ++ u16 0 ++ u8 0 ++ u16 0
    | some l => u8 2 ++ u16 l.version ++ u8 l.carriers.length ++ u16 l.services.length) ++
    optBytes 2 (s.power.held.map (·.version))

/-- The reply body of LINEUP READ over the records at or above its starting key. The reply is 512 bytes
at most, of which 16 hold what is not a record. -/
def lineupReadBody (s : State) (found : List (List Byte)) (count : Nat) : List Byte :=
  let t := fitting 496 (found.take count)
  u8 t.1 ++ t.2 ++ lineupState s ++ flagByte (decide (t.1 < found.length))

/-- LINEUP READ (R37): kind 1 SERVICES, 2 CARRIERS. -/
def execLineupRead (a : Agent) (s : State) : Host.Outcome State Fault Refusal :=
  .next <| takeRequest .lineupRead a (fun body s =>
    match fields [1, 2, 1] body with
    | some [kind, key, n] =>
      if n = 0 ∨ 16 < n then reply a .badField [] s
      else if kind = 1 ∧ 1 ≤ key ∧ key ≤ 9999 then
        reply a .ok (lineupReadBody s
          ((s.lineup.services.filter fun v => decide (key ≤ v.channel)).map Service.bytes) n) s
      else if kind = 2 ∧ 1 ≤ key ∧ key ≤ 255 then
        reply a .ok (lineupReadBody s
          ((s.lineup.carriers.filter fun c => decide (key ≤ c.id)).map Carrier.bytes) n) s
      else reply a .badField [] s
    | _ => reply a .badField [] s) s

end Sys2Proof.Machine
end

