-- ==== Sys2Proof/Machine/LinkCommands.lean ====
section
/-! DEFINITION. Commands of the agent links: frames (R182), link resets (R187), HELLO and RESIGN (R188),
DISABLE and ENABLE (R190), READ NOTICES, NOTICE MAP and LINK STATUS (R192), and the refusal of an unknown
request (R184). -/

namespace Sys2Proof.Machine

/-- The transfer of a frame is under way from the present count on; one that is under way already keeps
its start (R182). -/
def beginTransfer (a : Agent) (s : State) : State :=
  s.setLink a { s.link a with transfer := some ((s.link a).transfer.getD s.localCount) }

/-- A frame whose transfer has ended is judged at once: a bad frame is answered BAD_FRAME and a frame beyond
four FULL, both at once; a well-formed frame is queued (R182). -/
def judgeFrame (a : Agent) (f : Frame) (s : State) : State :=
  let l := s.link a
  if 15 < f.linkTag ∨ 512 < f.length ∨ f.body.length < f.length then
    send (.reply a f.linkTag .badFrame []) s
  else if 4 ≤ l.queue.length then send (.reply a f.linkTag .full []) s
  else s.setLink a { l with queue := l.queue ++ [⟨f.linkTag, f.code, f.body.take f.length⟩] }

/-- FRAME_ARRIVAL (R182): a frame begins, or has been transferred and is judged; while the link is DOWN
nothing is read. -/
def execFrameArrival (a : Agent) (x : Arrival) (s : State) : Host.Outcome State Fault Refusal :=
  .next
    (if (s.link a).up = false then s
    else
      match x with
      | .begins => beginTransfer a s
      | .ends f => judgeFrame a f (s.setLink a { s.link a with transfer := none }))

/-- FRAME_TIMEOUT (R182): a transfer not completed within 50 ms of its start is loss of the link, which takes
a link reset and is UP again at once (R187). -/
def execFrameTimeout (a : Agent) (s : State) : Host.Outcome State Fault Refusal :=
  .next
    (if (s.link a).up = true ∧ s.reached (s.link a).transferExpiry = true then settle (linkReset a true s)
    else s)

/-- AGENT_RESET_HELD (R187): the link goes DOWN with a link reset. -/
def execAgentResetHeld (a : Agent) (s : State) : Host.Outcome State Fault Refusal :=
  .next (if (s.link a).up then settle (linkReset a false s) else s)

/-- AGENT_RESET_RELEASED (R186): the link is UP again. -/
def execAgentResetReleased (a : Agent) (s : State) : Host.Outcome State Fault Refusal :=
  .next (s.setLink a { s.link a with up := true })

/-- UNKNOWN_REQUEST (R184, check 1): a request whose code names none is answered UNKNOWN_REQUEST. -/
def execUnknownRequest (a : Agent) (s : State) : Host.Outcome State Fault Refusal :=
  .next
    (match s.head a with
    | none => s
    | some r => if (requestOf r.code).isNone then reply a .unknownRequest [] s else s)

/-- The lead in a reply: absent, or the agent's number. -/
def leadBytes (s : State) : List Byte := optBytes 1 (s.lead.map agentNumber)

/-- The ready flag an agent's HELLO leaves, with the election it may cause (R188). -/
def setReady (a : Agent) (ready : Bool) (s : State) : State :=
  let t := s.setLink a { s.link a with ready := ready }
  if ready then (if s.lead = none then elect none t else t)
  else if s.lead = some a then elect none t
  else t

/-- HELLO (R188). -/
def execHello (a : Agent) (s : State) : Host.Outcome State Fault Refusal :=
  .next <| takeRequest .hello a (fun body s =>
    match (fields [1] body).bind fun
      | [n] => flagOf n
      | _ => none with
    | none => reply a .badField [] s
    | some ready =>
      let t := setReady a ready s
      reply a .ok (u8 (agentNumber a) ++ flagByte (t.link a).ready ++
        flagByte (t.link a).disabled ++ leadBytes t) t) s

/-- RESIGN (R188): the lead becomes absent and an election is held without the resigning agent. -/
def execResign (a : Agent) (s : State) : Host.Outcome State Fault Refusal :=
  .next <| takeRequest .resign a (fun body s =>
    if body.isEmpty then
      let t := elect (some a) (s.setLead none)
      reply a .ok (leadBytes t) t
    else reply a .badField [] s) s

/-- The agent that DISABLE and ENABLE name; none when out of range or the requesting lead (R190). -/
def namedAgent (a : Agent) (body : List Byte) : Option Agent :=
  match fields [1] body with
  | some [n] => (agentOf n).filter fun b => b != a
  | _ => none

/-- Sets the disabled flag of an agent, a stored item (R186, R190). -/
def setDisabled (b : Agent) (flag : Bool) (s : State) : State :=
  let l := s.link b
  markDirty .settings
    (s.setLink b { l with disabled := flag, notices := if flag then [] else l.notices })

/-- DISABLE (R190). -/
def execDisable (a : Agent) (s : State) : Host.Outcome State Fault Refusal :=
  .next <| takeRequest .disable a (fun body s =>
    match namedAgent a body with
    | none => reply a .badField [] s
    | some b => reply a .ok [] (if (s.link b).disabled then s else setDisabled b true s)) s

/-- ENABLE (R190). -/
def execEnable (a : Agent) (s : State) : Host.Outcome State Fault Refusal :=
  .next <| takeRequest .enable a (fun body s =>
    match namedAgent a body with
    | none => reply a .badField [] s
    | some b => reply a .ok [] (if (s.link b).disabled then setDisabled b false s else s)) s

/-- Whether a class is pending in the set of a target. -/
def pendingAt (c : NoticeClass) (s : State) : Target → Bool
  | .agent a => decide (c ∈ (s.link a).notices)
  | .lead => decide (c ∈ s.leadNotices)
  | .everyAgent => false

/-- Takes a class out of the set of a target. -/
def removeAt (c : NoticeClass) (t : Target) (s : State) : State :=
  match t with
  | .agent a =>
    s.setLink a { s.link a with notices := (s.link a).notices.filter fun x => x != c }
  | .lead => s.setLeadNotices (s.leadNotices.filter fun x => x != c)
  | .everyAgent => s

/-- Adds a class to the set of a target; it is dropped when the target is a disabled agent (R192). -/
def addAt (c : NoticeClass) (t : Target) (s : State) : State :=
  match t with
  | .agent a => addToAgent (fun l => !l.disabled) c a s
  | .lead => s.setLeadNotices (addNotice c s.leadNotices)
  | .everyAgent => s

/-- Gives a class a new target: the map takes it, the image is marked dirty, and a pending class moves
from the old target's set to the new one's (R192). -/
def retarget (c : NoticeClass) (t : Target) (s : State) : State :=
  let old := s.targetOf c
  let m := markDirty .settings (s.setNoticeMap (s.noticeMap.set c.idx.val t c.idx.isLt))
  if pendingAt c s old then addAt c t (removeAt c old m) else m

/-- NOTICE MAP (R192). -/
def execNoticeMap (a : Agent) (s : State) : Host.Outcome State Fault Refusal :=
  .next <| takeRequest .noticeMap a (fun body s =>
    match fields [1, 1] body with
    | some [x, y] =>
      match NoticeClass.ofCode x, Target.ofCode y with
      | some c, some t =>
        if c = .power then reply a .badField [] s
        else reply a .ok [] (if s.targetOf c = t then s else retarget c t s)
      | _, _ => reply a .badField [] s
    | _ => reply a .badField [] s) s

/-- The classes a reader of its notices is given: its own pending set and, for the lead, the LEAD pending
set, each class once (R192). -/
def readableNotices (s : State) (a : Agent) : List NoticeClass :=
  if s.lead = some a then s.leadNotices.foldl (fun l c => addNotice c l) (s.link a).notices
  else (s.link a).notices

/-- READ NOTICES (R192). -/
def execReadNotices (a : Agent) (s : State) : Host.Outcome State Fault Refusal :=
  .next <| takeRequest .readNotices a (fun body s =>
    if body.isEmpty then
      let t := s.setLink a { s.link a with notices := [] }
      let t := if s.lead = some a then t.setLeadNotices [] else t
      reply a .ok (classSetBytes (readableNotices s a)) t
    else reply a .badField [] s) s

/-- One agent's part of the reply of LINK STATUS: link state (UP 1, DOWN 2), ready, disabled and queue
length (R192). -/
def linkBytes (l : Link) : List Byte :=
  u8 (if l.up then 1 else 2) ++ flagByte l.ready ++ flagByte l.disabled ++ u8 l.queue.length

/-- LINK STATUS (R192); the map is given for the eleven classes it can set (log entry 10). -/
def execLinkStatus (a : Agent) (s : State) : Host.Outcome State Fault Refusal :=
  .next <| takeRequest .linkStatus a (fun body s =>
    if body.isEmpty then
      reply a .ok
        (allAgents.flatMap (fun b => linkBytes (s.link b)) ++ leadBytes s ++
          mappable.flatMap (fun c => u8 (s.targetOf c).code) ++
          classSetBytes s.leadNotices) s
    else reply a .badField [] s) s

end Sys2Proof.Machine
end

