-- ==== Sys2Proof/Machine/ParentalCommands.lean ====
section
/-! DEFINITION. Commands of the Parental Unit: PROFILE SELECT (R144), PROFILE WRITE (R145), UNLOCK (R146),
EXTEND (R147), PARENTAL STATUS (R148), and the lockout, minute, edge and rollover expiries (R143, R150,
R152, R154). -/

namespace Sys2Proof.Machine

/-- A profile 0..4 of a body. -/
def profileNoOf (n : Nat) : Option ProfileNo := if h : n < 5 then some ⟨n, h⟩ else none

/-- An unlock scope in a reply: service id, and event id or NO_EVENT (R146), sent as an absent event id (log
entry 10). -/
def scopeBytes (u : Unlock) : List Byte := u16 u.service ++ optBytes 2 u.event

/-- Answers the refusal of a PIN check, or goes on in the state the check leaves (R142). -/
def afterPin (a : Agent) (r : PinAnswer × State) (go : State → State) : State :=
  match r.1.refusal with
  | some (st, b) => reply a st b r.2
  | none => go r.2

/-! ## PROFILE SELECT (R144) -/

/-- Makes a profile active, with the switch of a running meter (R151). -/
def switchProfile (n : ProfileNo) (s : State) : State :=
  if s.parental.run.isSome then
    startMeter ((stopMeter s).onParental fun u => { u with active := n })
  else s.onParental fun u => { u with active := n }

/-- Makes a profile the start profile; a change is a change of a stored item (R155). -/
def setStartProfile (n : ProfileNo) (s : State) : State :=
  if s.parental.startProfile = n then s
  else markDirty .parental (s.onParental fun u => { u with startProfile := n })

/-- Drops the unlock of a path. -/
def dropUnlock (p : PathNo) (s : State) : State := s.onPath p fun x => { x with unlock := none }

/-- Carries out an accepted PROFILE SELECT, short of the gate evaluations it names (R144). -/
def selectProfile (n : ProfileNo) (start : Bool) (s : State) : State :=
  let s := switchProfile n s
  let s := if start then setStartProfile n s else s
  let s := forEach viewPaths dropUnlock s
  raise .parental (markViews (judgeWindow s))

/-- The reply body of PROFILE SELECT: active and start profile, verdicts of paths 0 and 1 (R144). -/
def selectBody (s : State) : List Byte :=
  u8 s.parental.active.val ++ u8 s.parental.startProfile.val ++ (s.path 0).state.bytes ++
    (s.path 1).state.bytes

/-- PROFILE SELECT (R144). -/
def execProfileSelect (a : Agent) (s : State) : Host.Outcome State Fault Refusal :=
  .next <| takeRequest .profileSelect a (fun body s =>
    match fields [1, 1, 1, 1, 1, 1] body with
    | some [n, d1, d2, d3, d4, f] =>
      match profileNoOf n, pinOf d1 d2 d3 d4, flagOf f with
      | some p, some given, some start =>
        let accepted := if start then [s.parental.masterPin] else acceptedFor s.parental p
        afterPin a (pinCheck given accepted s) fun t =>
          finish a .ok selectBody (selectProfile p start t)
      | _, _, _ => reply a .badField [] s
    | _ => reply a .badField [] s) s

/-! ## PROFILE WRITE (R145) -/

/-- A profile 1..4 of a body, as its place among the written profiles. -/
def writableOf (n : Nat) : Option (Fin 4) :=
  if h : 1 ≤ n ∧ n ≤ 4 then some ⟨n - 1, by omega⟩ else none

/-- The number of a written profile among the five. -/
def profileOfSlot (k : Fin 4) : ProfileNo := ⟨k.val + 1, by omega⟩

/-- One blocked service id of a body. -/
def takeId (bs : List Byte) : Option (Nat × List Byte) :=
  match takeFields [2] bs with
  | some ([x], rest) => some (x, rest)
  | _ => none

/-- The fields of a PROFILE WRITE, before clamping. -/
structure ProfileWrite where
  slot    : Fin 4
  profile : Profile
  master  : Pin
  deriving DecidableEq, Repr

/-- The fields of the body of a PROFILE WRITE, or none when its length does not fit or a field is out of
range (R145, check 1). -/
def profileWriteOf (body : List Byte) : Option ProfileWrite :=
  match takeFields [1, 1] body with
  | some ([n, ceiling], rest) =>
    match takeList takeId rest with
    | some (ids, rest) =>
      match fields [1, 1, 2, 2, 2, 1, 1, 1, 1, 1, 1, 1, 1] rest with
      | some [sk, pp, al, ws, we, p1, p2, p3, p4, m1, m2, m3, m4] =>
        match writableOf n, flagOf sk, flagOf pp, pinOf p1 p2 p3 p4, pinOf m1 m2 m3 m4 with
        | some k, some skip, some buy, some pin, some master =>
          if 7 < ceiling ∨ 16 < ids.length ∨ 0 ∈ ids ∨ allDistinct ids = false then none
          else some ⟨k, ⟨ceiling, ids, skip, buy, al, ws, we, pin⟩, master⟩
        | _, _, _, _, _ => none
      | _ => none
    | none => none
  | _ => none

/-- The values of a PROFILE WRITE as the part limits them (R145). -/
def clampProfile (p : Profile) : Profile :=
  { p with allowance := min p.allowance 1440, winStart := min p.winStart 1439,
           winStop := min p.winStop 1439 }

/-- Writes the fields of a profile and lowers its extension when needed (R145). -/
def writeProfile (k : Fin 4) (p : Profile) (s : State) : State :=
  let n := profileOfSlot k
  let m := s.parental.meters.get n
  let m' : Meter := { m with extension := min m.extension (1440 - p.allowance) }
  let t := raise .parental (markDirty .parental
    (s.onParental fun u =>
      { u.setMeter n m' with profiles := u.profiles.set k.val p k.isLt }))
  if s.parental.active = n then markViews (judgeWindow t) else t

/-- The reply body of PROFILE WRITE (R145): the fields as written, PIN included (log entry 10), and the
extension. -/
def writtenBody (k : Fin 4) (s : State) : List Byte :=
  (s.parental.profiles.get k).openBytes ++ (s.parental.profiles.get k).pin.bytes ++
    u16 (s.parental.meters.get (profileOfSlot k)).extension

/-- PROFILE WRITE (R145). -/
def execProfileWrite (a : Agent) (s : State) : Host.Outcome State Fault Refusal :=
  .next <| takeRequest .profileWrite a (fun body s =>
    match profileWriteOf body with
    | none => reply a .badField [] s
    | some w =>
      afterPin a (pinCheck w.master [s.parental.masterPin] s) fun t =>
        finish a (if clampProfile w.profile = w.profile then .ok else .okClamped)
          (writtenBody w.slot) (writeProfile w.slot (clampProfile w.profile) t)) s

/-! ## UNLOCK and EXTEND (R146, R147) -/

/-- The scope an UNLOCK gives a path on a service: its current event, or NO_EVENT (R146). -/
def newScope (x : Path) (v : Service) : Unlock := ⟨v.id, x.currentEvent.map (·.id)⟩

/-- The reply body of UNLOCK: the scope, and the path's state and reason. -/
def unlockBody (p : PathNo) (u : Unlock) (s : State) : List Byte :=
  scopeBytes u ++ (s.path p).state.bytes

/-- UNLOCK (R146). -/
def execUnlock (a : Agent) (s : State) : Host.Outcome State Fault Refusal :=
  .next <| takeRequest .unlock a (fun body s =>
    match fields [1, 1, 1, 1, 1] body with
    | some [n, d1, d2, d3, d4] =>
      if h : n < 2 then
        let p : PathNo := ⟨n, by omega⟩
        match pinOf d1 d2 d3 d4 with
        | none => reply a .badField [] s
        | some given =>
          if s.power.state ≠ .active then reply a .asleep [] s
          else
            match (s.path p).snapshot with
            | none => reply a .noService [] s
            | some v =>
              afterPin a (pinCheck given [s.parental.masterPin] s) fun t =>
                let u := newScope (s.path p) v
                finish a .ok (unlockBody p u)
                  (markGate p (t.onPath p fun x => { x with unlock := some u }))
      else reply a .badField [] s
    | _ => reply a .badField [] s) s

/-- Adds minutes to the extension of the active profile, up to 1440 minus its allowance (R147). -/
def extendMeter (n : Nat) (s : State) : State :=
  let u := s.parental
  let m := u.activeMeter
  let x := min (m.extension + n) (1440 - u.activeProfile.allowance)
  let t := s.setParental (u.setMeter u.active { m with extension := x })
  markViews (raise .parental (if x = m.extension then t else markDirty .parental t))

/-- The reply body of EXTEND: allowance, extension and used minutes (R147). -/
def extendBody (s : State) : List Byte :=
  u16 s.parental.activeProfile.allowance ++ u16 s.parental.activeMeter.extension ++
    u16 s.parental.activeMeter.used

/-- Whether the limit cuts an EXTEND short (R147). -/
def extendCut (n : Nat) (s : State) : Bool :=
  decide (1440 - s.parental.activeProfile.allowance < s.parental.activeMeter.extension + n)

/-- EXTEND (R147). -/
def execExtend (a : Agent) (s : State) : Host.Outcome State Fault Refusal :=
  .next <| takeRequest .extend a (fun body s =>
    match fields [2, 1, 1, 1, 1] body with
    | some [n, d1, d2, d3, d4] =>
      match pinOf d1 d2 d3 d4 with
      | none => reply a .badField [] s
      | some given =>
        if n = 0 ∨ 1440 < n then reply a .badField [] s
        else if s.power.state ≠ .active then reply a .asleep [] s
        else
          afterPin a (pinCheck given [s.parental.masterPin] s) fun t =>
            finish a (if extendCut n t then .okClamped else .ok) extendBody (extendMeter n t)
    | _ => reply a .badField [] s) s

/-! ## PARENTAL STATUS (R148) -/

/-- The reply body of PARENTAL STATUS (R148). The remainder is limited when allowance plus extension is below 1440
(log entry 32), and an unlimited one is sent as absent (log entry 10). -/
def parentalStatusBody (s : State) : List Byte :=
  let u := s.parental
  let sum := u.allowed u.active
  u8 u.active.val ++ u8 u.startProfile.val ++ u.profiles.toList.flatMap Profile.openBytes ++
    (List.finRange 5).flatMap (fun n =>
      u16 (u.meters.get n).used ++ u16 (partialNow s n) ++ u16 (u.meters.get n).extension) ++
    optBytes 2 (if sum < 1440 then some (sum - u.activeMeter.used) else none) ++
    u8 (if u.run.isSome then 2 else 1) ++ u8 u.attempts ++
    optBytes 8 (u.lockout.map fun e => e - s.localCount) ++ u8 (judgedSide s).code ++
    (match u.lastRollover with
    | none => u8 0 ++ s64 0
    | some d => u8 1 ++ s64 d) ++
    viewPaths.flatMap (fun p =>
      match (s.path p).unlock with
      | none => u8 0 ++ u16 0 ++ optBytes 2 none
      | some x => u8 1 ++ scopeBytes x)

/-- PARENTAL STATUS (R148). -/
def execParentalStatus (a : Agent) (s : State) : Host.Outcome State Fault Refusal :=
  .next <| takeRequest .parentalStatus a (fun body s =>
    if body.isEmpty then reply a .ok (parentalStatusBody s) s else reply a .badField [] s) s

/-! ## Expiries -/

/-- LOCKOUT_EXPIRY (R143). -/
def execLockoutExpiry (s : State) : Host.Outcome State Fault Refusal :=
  .next
    (if s.reached s.parental.lockout then
      raise .parental (markDirty .parental (s.onParental fun u => { u with lockout := none }))
    else s)

/-- MINUTE_EXPIRY (R150): the running profile's used minutes rise by one; the run goes on from the present
count with partial 0, and at 1440 used minutes nothing more is counted. -/
def execMinuteExpiry (s : State) : Host.Outcome State Fault Refusal :=
  .next
    (if s.reached s.parental.minuteExpiry then
      let t := addMinute s
      settle (t.onParental fun u =>
        { u with
          run := some s.localCount
          minuteExpiry := if u.activeMeter.used = 1440 then none else some (s.localCount + 60000) })
    else s)

/-- EDGE_EXPIRY (R152): the window side is judged again. -/
def execEdgeExpiry (s : State) : Host.Outcome State Fault Refusal :=
  .next (if s.reached s.parental.edgeExpiry then settle (judgeWindow s) else s)

/-- ROLLOVER_EXPIRY (R154): a rollover is taken. -/
def execRolloverExpiry (s : State) : Host.Outcome State Fault Refusal :=
  .next (if s.reached s.parental.rolloverExpiry then settle (rolloverIfDue s) else s)

end Sys2Proof.Machine
end

