-- ==== Sys2Proof/Machine/PathCommands.lean ====
section
/-! DEFINITION. Commands of the Stream Paths: TUNE PATH and STEP PATH (R74 to R79), RELEASE PATH (R80), PATH
READ (R94), the boundary expiry (R90), and the packets of the tuners (R60, R87, R88). -/

namespace Sys2Proof.Machine

/-! ## Channel change (R76, R77) -/

/-- Steps 1 to 6 of an accepted channel change to a service; its gate is named (R77). -/
def changeChannel (p : PathNo) (v : Service) (s : State) : State :=
  let s := emptySlots p (leaveQueue p s)
  let s := s.onPath p fun x => { x with unlock := none }
  let kept := decide (((s.path p).heldInput.bind fun i => (s.input i).carrier) = some v.carrier)
  let s := if kept then s else releaseInput p s
  let s := s.onPath p fun x =>
    { x with snapshot := some v, lastService := some v.id, lastChange := s.localCount }
  let s := takeLookup p s
  if kept then markGate p s else claim p s

/-- The reply body of an accepted channel change: outcome CHANGED, coded 1 (log entry 11), service id and
channel number, held input, state and reason (R77). That the held input has its mark before it is the model's
choice (log entry 10). -/
def changedBody (p : PathNo) (v : Service) (s : State) : List Byte :=
  u8 1 ++ u16 v.id ++ u16 v.channel ++ optBytes 1 ((s.path p).heldInput.map (·.val)) ++
    (s.path p).state.bytes

/-- Orders 2 to 5 of the checks of a channel change to the service found, and the change (R76). The reply to a
change that finds its service on the path carries the outcome UNCHANGED, coded 2 (log entry 11), and the
path's state without its reason (R76; log entry 10). -/
def channelRequest (a : Agent) (p : PathNo) (found : Option Service) (s : State) : State :=
  if s.power.state ≠ .active then reply a .asleep [] s
  else
    match found with
    | none => reply a .noService [] s
    | some v =>
      if (s.path p).snapshot.any (fun w => w.id == v.id) then
        reply a .ok (u8 2 ++ u8 (s.path p).state.code) s
      else if changeServable p v.carrier s = false then reply a .noInput [] s
      else finish a .ok (changedBody p v) (changeChannel p v s)

/-- The view path a body names. -/
def viewPathOf : Nat → Option PathNo
  | 0 => some 0
  | 1 => some 1
  | _ => none

/-- TUNE PATH (R74): selector 1 is a service id, 2 a channel number. -/
def execTunePath (a : Agent) (s : State) : Host.Outcome State Fault Refusal :=
  .next <| takeRequest .tunePath a (fun body s =>
    match fields [1, 1, 2] body with
    | some [n, sel, x] =>
      match viewPathOf n with
      | none => reply a .badField [] s
      | some p =>
        if sel = 1 ∧ 1 ≤ x then channelRequest a p (s.lineup.service x) s
        else if sel = 2 ∧ 1 ≤ x ∧ x ≤ 9999 then channelRequest a p (s.lineup.byChannel x) s
        else reply a .badField [] s
    | _ => reply a .badField [] s) s

/-- Whether a step passes over a service: it is HIDDEN, or blocked by an active profile that skips (R75). -/
def passedOver (s : State) (v : Service) : Bool :=
  v.hidden || (s.parental.activeProfile.skip && decide (v.id ∈ s.parental.activeProfile.blocked))

/-- The channel number a step starts from: that of the path's last service in the active lineup (R75). -/
def stepStart (s : State) (p : PathNo) : Option Nat :=
  ((s.path p).lastService.bind fun sid => s.lineup.service sid).map (·.channel)

/-- The service a step finds (R75). -/
def stepFound (s : State) (p : PathNo) (up : Bool) : Option Service :=
  (if up then s.lineup.walkUp (stepStart s p) else s.lineup.walkDown (stepStart s p)).find? fun v =>
    !passedOver s v

/-- STEP PATH (R75): direction 1 is UP, 2 DOWN. -/
def execStepPath (a : Agent) (s : State) : Host.Outcome State Fault Refusal :=
  .next <| takeRequest .stepPath a (fun body s =>
    match fields [1, 1] body with
    | some [n, dir] =>
      match viewPathOf n with
      | none => reply a .badField [] s
      | some p =>
        if dir = 1 then channelRequest a p (stepFound s p true) s
        else if dir = 2 then channelRequest a p (stepFound s p false) s
        else reply a .badField [] s
    | _ => reply a .badField [] s) s

/-- RELEASE PATH (R80). -/
def execReleasePath (a : Agent) (s : State) : Host.Outcome State Fault Refusal :=
  .next <| takeRequest .releasePath a (fun body s =>
    match (fields [1] body).bind fun
      | [n] => viewPathOf n
      | _ => none with
    | none => reply a .badField [] s
    | some p => finish a .ok (fun _ => []) (goIdle p .released s)) s

/-! ## Reading (R94) -/

/-- A slot in the reply of PATH READ: its state and its versions. -/
def slotBytes (k : Slot) : List Byte :=
  u8 k.stateCode ++ optBytes 1 (k.loaded.map (·.version)) ++ optBytes 1 k.pending

/-- A path's place in the claim queue, counted from 1. -/
def queuePlace (s : State) (p : PathNo) : Option Nat := (s.claimQueue.idxOf? p).map (· + 1)

/-- The code of a path's role: MAIN 1, INSET 2, RECORD 3 (R70). -/
def roleCode (p : PathNo) : Nat := min p.val 2 + 1

/-- A path in the reply of PATH READ (R94). What is absent as a whole is a mark 0 and zeros; the NO_EVENT of an
unlock scope is sent as an absent event id; the end of the current event is cut to 32 bits (log entry 10). -/
def pathBytes (s : State) (p : PathNo) : List Byte :=
  let x := s.path p
  u8 (roleCode p) ++ x.state.bytes ++
    (match x.snapshot with
    | none => u8 0 ++ u16 0 ++ u16 0
    | some v => u8 1 ++ u16 v.id ++ u16 v.channel) ++
    optBytes 2 x.lastService ++ optBytes 1 (x.heldInput.map (·.val)) ++
    optBytes 1 (queuePlace s p) ++
    (match x.currentEvent with
    | none => u8 0 ++ u16 0 ++ u32 0 ++ u32 0
    | some c => u8 1 ++ u16 c.id ++ u32 c.start ++ u32 c.stop) ++
    optBytes 8 (x.boundary.map fun b => b.expiry - s.localCount) ++
    slotBytes x.slotA ++ slotBytes x.slotB ++
    (match x.unlock with
    | none => u8 0 ++ u16 0 ++ optBytes 2 none
    | some u => u8 1 ++ u16 u.service ++ optBytes 2 u.event) ++
    optBytes 1 x.job ++ u64 (s.localCount - x.lastChange)

/-- PATH READ (R94): a path number, or 255 for all six. -/
def execPathRead (a : Agent) (s : State) : Host.Outcome State Fault Refusal :=
  .next <| takeRequest .pathRead a (fun body s =>
    match fields [1] body with
    | some [n] =>
      if h : n < 6 then reply a .ok (pathBytes s ⟨n, h⟩) s
      else if n = 255 then reply a .ok (allPaths.flatMap (pathBytes s)) s
      else reply a .badField [] s
    | _ => reply a .badField [] s) s

/-! ## Event tracking and packets -/

/-- BOUNDARY_EXPIRY (R90): the path takes a lookup and its gate is evaluated. -/
def execBoundaryExpiry (p : PathNo) (s : State) : Host.Outcome State Fault Refusal :=
  .next
    (if s.reached ((s.path p).boundary.map (·.expiry)) then settle (takeBoundary p s) else s)

/-- A component packet at a path: sent out in PRESENTING, clear or descrambled with a LOADED slot's key
(R88). -/
def componentPacket (p : PathNo) (pkt : Packet) (s : State) : State :=
  if (s.path p).state = .presenting then
    match pkt.mark with
    | .clear => send (.packet p pkt.tag pkt.payload) s
    | .phase ph =>
      match ((s.path p).slot ph).loaded with
      | some k => send (.packet p pkt.tag (Config.descramble k.key pkt.payload)) s
      | none => s
  else s

/-- A packet at a path, handled by its stream tag (R87). -/
def pathPacket (pkt : Packet) (p : PathNo) (s : State) : State :=
  match (s.path p).snapshot with
  | none => s
  | some v =>
    if v.components.any fun c => c.tag == pkt.tag then componentPacket p pkt s
    else if v.keyTag = some pkt.tag then keyPacket p v pkt.payload s
    else s

/-- A time section: taken as an in-band mark when IN_BAND is selected and it came from the in-band input,
discarded otherwise (R7). -/
def timeSection (i : InputNo) (payload : List Byte) (s : State) : State :=
  match fields [8] payload with
  | some [n] =>
    if s.time.source = .inBand ∧ s.time.inBandInput = some i then
      (takeMark ⟨.inBand, some i, n⟩ s).2.2
    else s
  | _ => s

/-- TRANSPORT_PACKET (R60): a packet on a LOCKED input goes to the Time Base by the tag 8001, and otherwise
to each holder; an input in another state discards it. -/
def execTransportPacket (i : InputNo) (pkt : Packet) (s : State) :
    Host.Outcome State Fault Refusal :=
  .next
    (if (s.input i).state = .locked then
      if pkt.tag = 8001 then settle (timeSection i pkt.payload s)
      else settle (forEach (s.input i).holders (pathPacket pkt) s)
    else s)

end Sys2Proof.Machine
end

