-- ==== Sys2Proof/Machine/PowerCommands.lean ====
section
/-! DEFINITION. Commands of the Power Controller and the Store Writer: STANDBY (R171), the drain (R172), WAKE
(R173), POWER STATUS (R181), PART RESET (R168, R180), power reset (R179), and the commit delay and the
writes of the image (R177, R178). -/

namespace Sys2Proof.Machine

/-! ## STANDBY and WAKE -/

/-- Step 3 of STANDBY: a dirty image with no write in progress begins a write at once, and the commit delay
is cancelled (R171). -/
def writeForStandby (s : State) : State :=
  if s.store.dirty.isEmpty ∨ s.store.write.isSome then s
  else beginWrite (s.setStore { s.store with commitDelay := none })

/-- Steps 1 to 4 of STANDBY taken in ACTIVE (R171). -/
def enterQuiescing (s : State) : State :=
  let s := s.setPower { s.power with state := .quiescing }
  let s := goIdle 1 .standby (goIdle 0 .standby s)
  raise .power (writeForStandby s)

/-- The power state a STANDBY reports at the end of its action: QUIESCING or STANDBY (R171). -/
def standbyReached (s : State) : PowerState :=
  if s.power.state = .quiescing then .quiescing else .standby

/-- STANDBY (R171): the reply carries the state reached at the end of the action. -/
def execStandby (a : Agent) (s : State) : Host.Outcome State Fault Refusal :=
  .next <| takeRequest .standby a (fun body s =>
    if body.isEmpty then
      if s.power.state = .active then
        let t := settle (enterQuiescing s)
        reply a .ok (u8 (standbyReached t).code) t
      else reply a .ok (u8 s.power.state.code) s
    else reply a .badField [] s) s

/-- DRAIN_COMPLETE (R172): QUIESCING ends in STANDBY when the three drain conditions hold. -/
def execDrainComplete (s : State) : Host.Outcome State Fault Refusal := .next (drain s)

/-- WAKE taken outside ACTIVE, short of its gates (R173). -/
def wakeUp (s : State) : State :=
  let old := s.power
  let s := s.setPower { state := .active, held := none }
  let s :=
    match old.state, old.held with
    | .quiescing, some l => commitLineup l s
    | .quiescing, none => s
    | _, _ => if s.card.state = .idleClock then startWake s else s
  raise .power s

/-- WAKE (R173): the reply carries the state before the request. -/
def execWake (a : Agent) (s : State) : Host.Outcome State Fault Refusal :=
  .next <| takeRequest .wake a (fun body s =>
    if body.isEmpty then
      if s.power.state = .active then reply a .ok (u8 s.power.state.code) s
      else finish a .ok (fun _ => u8 s.power.state.code) (wakeUp s)
    else reply a .badField [] s) s

/-! ## POWER STATUS (R181) -/

/-- The reply body of POWER STATUS (R181). With no write in progress the state byte is followed by eight zeros in
place of the ms since its start; the dirty set is a count and the codes of its sections (log entry 10). -/
def powerStatusBody (s : State) : List Byte :=
  let x := s.store
  u8 s.power.state.code ++ optBytes 2 (s.power.held.map (·.version)) ++
    flagByte (decide (verifyCount s = 0)) ++ flagByte (x.dirty.isEmpty && x.write.isNone) ++
    flagByte s.staging.isNone ++ u8 (verifyCount s) ++ flagByte s.staging.isSome ++
    listBytes (fun d => u8 d.code) x.dirty ++
    optBytes 8 (x.dirtySince.map fun c => s.localCount - c) ++
    optBytes 8 (x.commitDelay.map fun c => c - s.localCount) ++
    (match x.write with
    | none => u8 1 ++ u64 0
    | some w => u8 2 ++ u64 (s.localCount - w.start)) ++
    u8 x.lastWrite.code ++ u8 (if x.loadGood then 1 else 2)

/-- POWER STATUS (R181). -/
def execPowerStatus (a : Agent) (s : State) : Host.Outcome State Fault Refusal :=
  .next <| takeRequest .powerStatus a (fun body s =>
    if body.isEmpty then reply a .ok (powerStatusBody s) s else reply a .badField [] s) s

/-! ## PART RESET (R168, R180) -/

/-- An input after part reset: FREE, its tune sequence and tune start kept (R53). -/
def partResetInput (x : CarrierInput) : CarrierInput := freedInput x

/-- A link after part reset: queue and pending set empty, due replies dropped (R186). -/
def partResetLink (l : Link) : Link := { l with queue := [], waiting := false, notices := [] }

/-- The Card Link after part reset, short of its state (R118). -/
def partResetCard (c : CardLink) : CardLink :=
  { c with resetExpiry := none, wakeExpiry := none, outstanding := [],
           resting := Vector.replicate 4 none, waiting := [], failures := 0, capture := none }

/-- The card after part reset: a present card is reset again, its clock started when it was stopped (R118,
R139; log entry 28). -/
def resetPresentCard (s : State) : State :=
  let t := s.onCard partResetCard
  if s.card.state = .absent then t else signalReset t

/-- A job that has lost its path to a part reset: an ACTIVE one becomes SCHEDULED, a start due one stops
waiting (R168). One that has no start expiry gets the one of R157, also at a span that has ended (log entry 18). -/
def partResetJob (s : State) (j : Job) : Job :=
  let k : Job :=
    { j with path := none, startDue := false, endExpiry := none, graceExpiry := none,
             state := if j.state = .active then .scheduled else j.state }
  if k.state = .scheduled ∧ j.startExpiry = none then
    { k with startExpiry := s.expiryIfKnown k.effStart }
  else k

/-- Starts a job again after a part reset when it is within its span (R168). -/
def restartInSpan (id : Nat) (s : State) : State :=
  match s.job id with
  | none => s
  | some j =>
    if s.timeKnown = true ∧ j.effStart ≤ (s.netSec : Int) ∧ (s.netSec : Int) < j.effStop then
      startJob id s
    else s

/-- The Job Scheduler at part reset (R168). -/
def partResetJobs (s : State) : State :=
  let hadActive := s.jobs.list.any fun j => j.state == .active
  let t := s.setJobs { s.jobs with list := s.jobs.list.map (partResetJob s) }
  let t := if hadActive then jobChanged t else t
  forEach (t.jobs.list.map (·.id)) restartInSpan t

/-- Every block but the Job Scheduler takes its part-reset values, the pending notices cleared first (R180). That
the state becomes ACTIVE before the other blocks act is the model's order (log entry 35). -/
def partResetBlocks (s : State) : State :=
  let wasActive := decide (s.power.state = .active)
  let s := s.setAgents
    ⟨partResetLink s.agents.media, partResetLink s.agents.network, partResetLink s.agents.panel⟩
  let s := (s.setLeadNotices []).setPower { state := .active, held := none }
  let s := if wasActive then s else raise .power s
  let s := ((s.setPaths (Vector.replicate 6 resetPath)).setClaimQueue []).setGatesDue []
  let s := stopMeter (recomputeInBand (s.setInputs (s.inputs.map partResetInput)))
  (closeBatch (resetPresentCard s)).setStaging none

/-- PART RESET (R180): it is answered, and then taken, the Job Scheduler last (log entry 35). -/
def execPartReset (a : Agent) (s : State) : Host.Outcome State Fault Refusal :=
  .next <| takeRequest .partReset a (fun body s =>
    if body.isEmpty then settle (partResetJobs (partResetBlocks (reply a .ok [] s)))
    else reply a .badField [] s) s

/-! ## Power reset (R179) -/

/-- The window side after power reset (R140). -/
def powerResetSide (u : Parental) : WindowSide := if u.activeProfile.hasWindow then .unknown else .none

/-- The Parental Unit after a good load (R140, R179). -/
def loadedParental (m : Image) : Parental :=
  let u : Parental :=
    { profiles := m.profiles, masterPin := m.masterPin, startProfile := m.startProfile,
      active := m.startProfile, attempts := m.attempts,
      lockout := if 0 < m.lockoutLeft then some m.lockoutLeft else none,
      meters := m.meters, run := none, minuteExpiry := none, lastRollover := none,
      rolloverExpiry := none, side := .none, edgeExpiry := none }
  { u with side := powerResetSide u }

/-- A job taken from the image: one stored ACTIVE becomes SCHEDULED (R168). -/
def loadedJob (j : Job) : Job :=
  { j.stored with state := if j.state = .active then .scheduled else j.state }

/-- Each owner takes its items from a good image (R179). -/
def loadImage (m : Image) (s : State) : State :=
  let s := (s.setLineup m.lineup).setAccess
    { tiers := m.tiers, balance := m.balance, purchases := m.purchases, batchOpen := false,
      batchNumber := 0 }
  let s := (s.setParental (loadedParental m)).setJobs
    { m.jobs with list := m.jobs.list.map loadedJob }
  let s := s.setTime { s.time with zone := m.zone, source := m.source }
  let s := s.setAgents
    ⟨{ s.agents.media with disabled := m.disabled.media },
     { s.agents.network with disabled := m.disabled.network },
     { s.agents.panel with disabled := m.disabled.panel }⟩
  ((s.setNoticeMap m.noticeMap).setLeadNotices []).setStore
    { s.store with dirty := [], dirtySince := none, commitDelay := none, loadGood := true }

/-- A card present at power reset is reset again (R118). That no start of its clock is sent first, whatever the
clock was, is the model's choice (log entry 34). -/
def powerUpCard (present : Bool) (s : State) : State :=
  if present then
    send .cardReset (s.onCard fun c => { c with state := .resetting, resetExpiry := some 500 })
  else s

/-- The state a power reset leaves before the image is loaded: the defaults, with the reset lines, the card
detect and the flash as they stand. What has been sent and what waits to be taken are the model's own and
stay. -/
def powerUp (s : State) : State :=
  let r := State.reset
  let up (l : Link) : Link := { resetLink with up := l.up }
  let r := r.setAgents ⟨up s.agents.media, up s.agents.network, up s.agents.panel⟩
  let r := (r.setStore { r.store with flash := s.store.flash }).setSent s.sent
  powerUpCard (decide (s.card.state ≠ .absent)) (r.setPending s.pending)

/-- POWER_RESET (R179). A bad image leaves the defaults, dirty, with a FAULT notice, as `State.reset` has
them. -/
def execPowerReset (s : State) : Host.Outcome State Fault Refusal :=
  .next
    (match goodImage s.store.flash with
    | some m => loadImage m (powerUp s)
    | none => powerUp s)

/-! ## Writing the image (R177, R178) -/

/-- COMMIT_DELAY_EXPIRY (R177): the commit delay becomes absent, and a write begins when none is in
progress. -/
def execCommitDelayExpiry (s : State) : Host.Outcome State Fault Refusal :=
  .next
    (if s.reached s.store.commitDelay then
      let t := s.setStore { s.store with commitDelay := none }
      if s.store.write.isNone then beginWrite t else t
    else s)

/-- WRITE_BEGIN (R178): a write that nothing holds back begins: the image is dirty, no write is in progress
and no commit delay stands. -/
def execWriteBegin (s : State) : Host.Outcome State Fault Refusal :=
  .next
    (if s.store.write.isNone ∧ s.store.dirty.isEmpty = false ∧ s.store.commitDelay.isNone then
      beginWrite s
    else s)

/-- The end of a write that is DONE; the next one begins at once when the image is dirty and QUIESCING, or
no commit delay, calls for it (R178). -/
def writeDone (w : Write) (s : State) : State :=
  let t := s.setStore
    { s.store with flash := some (flashOf w.image), write := none, lastWrite := .done }
  if t.store.dirty.isEmpty = false ∧
      (t.power.state = .quiescing ∨ t.store.commitDelay.isNone = true) then beginWrite t
  else t

/-- The end of a write that is FAILED (R178). -/
def writeFailed (s : State) : State :=
  raise .fault
    (s.setStore
      { s.store with
        dirty := [.lineup, .access, .parental, .jobs, .settings]
        dirtySince := some (s.store.dirtySince.getD s.localCount)
        commitDelay := some (s.localCount + 2000)
        write := none
        lastWrite := .failed })

/-- FLASH_WRITE_COMPLETE (R178); a report with no write in progress is discarded. -/
def execFlashWriteComplete (s : State) : Host.Outcome State Fault Refusal :=
  .next
    (match s.store.write with
    | some w => settle (writeDone w s)
    | none => s)

/-- FLASH_WRITE_ERROR (R178). -/
def execFlashWriteError (s : State) : Host.Outcome State Fault Refusal :=
  .next (if s.store.write.isSome then settle (writeFailed s) else s)

/-- WRITE_TIMEOUT (R178). -/
def execWriteTimeout (s : State) : Host.Outcome State Fault Refusal :=
  .next (if s.reached (s.store.write.map (·.timeout)) then settle (writeFailed s) else s)

end Sys2Proof.Machine
end

