-- ==== Sys2Proof/Machine/TimeCommands.lean ====
section
/-! DEFINITION. Commands of the Time Base: TIME MARK (R16), TIME SOURCE (R17), TIME SET (R18), ZONE SET
(R19), TIME READ (R20), and the end-of-slew and holdover expiries (R14, R15). -/

namespace Sys2Proof.Machine

/-- The status and body of the answer to a TIME MARK (R16); the outcomes are coded FIRST 1, STEP 2, SLEW 3,
ON_TIME 4. An e of 2^63 or more is sent modulo 2^64 (log entry 10). -/
def markAnswer (taught : Bool) (rate : Nat) : MarkOutcome → Status × List Byte
  | .first => (.ok, u8 1 ++ s64 0 ++ flagByte taught ++ u32 rate)
  | .step e => (.ok, u8 2 ++ s64 e ++ flagByte taught ++ u32 rate)
  | .slew e => (.ok, u8 3 ++ s64 e ++ flagByte taught ++ u32 rate)
  | .onTime => (.ok, u8 4 ++ s64 0 ++ flagByte taught ++ u32 rate)
  | .rejected e => (.rejected, s64 e)

/-- TIME MARK (R16): an out-of-band mark, taken at the present count. That a body of another length is refused
BAD_FIELD also while IN_BAND is selected is the model's order (log entry 29). -/
def execTimeMark (a : Agent) (s : State) : Host.Outcome State Fault Refusal :=
  .next <| takeRequest .timeMark a (fun body s =>
    match fields [8] body with
    | some [n] =>
      if s.time.source ≠ .outOfBand then reply a .ignored [] s
      else
        let r := takeMark ⟨.outOfBand, none, n⟩ s
        let ans := markAnswer r.2.1 r.2.2.time.rate r.1
        finish a ans.1 (fun _ => ans.2) r.2.2
    | _ => reply a .badField [] s) s

/-- Selects a source of marks: prev mark is cleared and the image marked dirty (R17). -/
def selectSource (x : Source) (s : State) : State :=
  if s.time.source = x then s
  else markDirty .settings (s.setTime { s.time with source := x, prevMark := none })

/-- TIME SOURCE (R17). -/
def execTimeSource (a : Agent) (s : State) : Host.Outcome State Fault Refusal :=
  .next <| takeRequest .timeSource a (fun body s =>
    match fields [1] body with
    | some [1] => reply a .ok [] (selectSource .outOfBand s)
    | some [2] => reply a .ok [] (selectSource .inBand s)
    | _ => reply a .badField [] s) s

/-- TIME SET (R18): in UNSET the clock is anchored as by a first mark, with prev mark left absent. That a body
of another length is refused BAD_FIELD also in SET and HOLDOVER is the model's order (log entry 29). -/
def execTimeSet (a : Agent) (s : State) : Host.Outcome State Fault Refusal :=
  .next <| takeRequest .timeSet a (fun body s =>
    match fields [8] body with
    | some [n] =>
      if s.time.state = .unset then finish a .ok (fun _ => []) (anchorFirst n none s)
      else reply a .timeHeld [] s
    | _ => reply a .badField [] s) s

/-- A zone as the part limits it (R19). -/
def clampZone (z : Int) : Int := max (-720) (min 840 z)

/-- Takes a zone: when it differs it is stored, TIME is raised, and RE-ANCHOR is announced with the anchor
unchanged (R19). In UNSET there is no network time, and the announcement finds no expiry to recompute. -/
def takeZone (z : Int) (s : State) : State :=
  if s.time.zone = z then s
  else
    let t := raise .time (markDirty .settings (s.setTime { s.time with zone := z }))
    if t.timeKnown then announce .reAnchor t else t

/-- ZONE SET (R19). -/
def execZoneSet (a : Agent) (s : State) : Host.Outcome State Fault Refusal :=
  .next <| takeRequest .zoneSet a (fun body s =>
    match fields [2] body with
    | some [n] =>
      let z := signed16 n
      finish a (if clampZone z = z then .ok else .okClamped) (fun _ => [])
        (takeZone (clampZone z) s)
    | _ => reply a .badField [] s) s

/-- The reply body of TIME READ (R20). Its signed fields take eight bytes, as R20 gives them no width (R185). -/
def timeReadBody (s : State) : List Byte :=
  let t := s.time
  let known := s.timeKnown
  u8 t.state.code ++ u64 s.localCount ++ u64 (if known then s.netMs else 0) ++
    s64 (if known then s.localDay else 0) ++ u16 (if known then s.minuteOfDay else 0) ++
    s64 t.zone ++ u8 t.source.code ++ optBytes 1 (t.inBandInput.map (·.val)) ++ u32 t.rate ++
    s64 t.slew ++
    u64 (match t.slewEnd with
      | none => 0
      | some e => e - s.localCount) ++
    optBytes 8 (t.prevMark.map fun m => s.localCount - m.takenAt)

/-- TIME READ (R20). -/
def execTimeRead (a : Agent) (s : State) : Host.Outcome State Fault Refusal :=
  .next <| takeRequest .timeRead a (fun body s =>
    if body.isEmpty then reply a .ok (timeReadBody s) s else reply a .badField [] s) s

/-- END_OF_SLEW_EXPIRY (R14): a re-anchor under the slewing rate, then the rate alone. -/
def execEndOfSlewExpiry (s : State) : Host.Outcome State Fault Refusal :=
  .next
    (if s.reached s.time.slewEnd then
      settle (announce .reAnchor
        (s.setTime { reAnchorAt s.localCount s.time with slew := 0, slewEnd := none }))
    else s)

/-- HOLDOVER_EXPIRY (R15): in SET the state becomes HOLDOVER and TIME is raised. -/
def execHoldoverExpiry (s : State) : Host.Outcome State Fault Refusal :=
  .next
    (if s.reached s.time.holdover ∧ s.time.state = .set then
      raise .time (s.setTime { s.time with state := .holdover, holdover := none })
    else s)

end Sys2Proof.Machine
end

