-- ==== Sys2Proof/Machine/Dispatch.lean ====
section
/-! DEFINITION. The dispatch of a command to its meaning: one arm per row of the opcode table. -/

namespace Sys2Proof.Machine

def exec (i : Instr) (s : State) : Host.Outcome State Fault Refusal :=
  match i with
  -- resets, links and the lead (R179, R182 to R192)
  | .powerReset => Sys2Proof.Machine.execPowerReset s
  | .frameArrival a x => Sys2Proof.Machine.execFrameArrival a x s
  | .frameTimeout a => Sys2Proof.Machine.execFrameTimeout a s
  | .agentResetHeld a => Sys2Proof.Machine.execAgentResetHeld a s
  | .agentResetReleased a => Sys2Proof.Machine.execAgentResetReleased a s
  | .unknownRequest a => Sys2Proof.Machine.execUnknownRequest a s
  | .hello a => Sys2Proof.Machine.execHello a s
  | .resign a => Sys2Proof.Machine.execResign a s
  | .disable a => Sys2Proof.Machine.execDisable a s
  | .enable a => Sys2Proof.Machine.execEnable a s
  | .noticeMap a => Sys2Proof.Machine.execNoticeMap a s
  | .readNotices a => Sys2Proof.Machine.execReadNotices a s
  | .linkStatus a => Sys2Proof.Machine.execLinkStatus a s
  -- network time (R14 to R20, R60)
  | .timeMark a => Sys2Proof.Machine.execTimeMark a s
  | .timeSource a => Sys2Proof.Machine.execTimeSource a s
  | .timeSet a => Sys2Proof.Machine.execTimeSet a s
  | .zoneSet a => Sys2Proof.Machine.execZoneSet a s
  | .timeRead a => Sys2Proof.Machine.execTimeRead a s
  | .endOfSlewExpiry => Sys2Proof.Machine.execEndOfSlewExpiry s
  | .holdoverExpiry => Sys2Proof.Machine.execHoldoverExpiry s
  | .transportPacket n pkt => Sys2Proof.Machine.execTransportPacket n pkt s
  -- the lineup (R26 to R37)
  | .lineupBegin a => Sys2Proof.Machine.execLineupBegin a s
  | .lineupAdd a => Sys2Proof.Machine.execLineupAdd a s
  | .lineupEnd a => Sys2Proof.Machine.execLineupEnd a s
  | .lineupRead a => Sys2Proof.Machine.execLineupRead a s
  -- the guide (R44 to R52)
  | .guideLoad a => Sys2Proof.Machine.execGuideLoad a s
  | .guideDrop a => Sys2Proof.Machine.execGuideDrop a s
  | .guideRead a => Sys2Proof.Machine.execGuideRead a s
  | .sweepExpiry => Sys2Proof.Machine.execSweepExpiry s
  -- carrier inputs (R56 to R69)
  | .tunerLock n seq => Sys2Proof.Machine.execTunerLock n seq s
  | .tunerNoSignal n seq => Sys2Proof.Machine.execTunerNoSignal n seq s
  | .tunerUnlock n seq => Sys2Proof.Machine.execTunerUnlock n seq s
  | .tuneTimeout n => Sys2Proof.Machine.execTuneTimeout n s
  | .retuneExpiry n => Sys2Proof.Machine.execRetuneExpiry n s
  | .claimQueueService => Sys2Proof.Machine.execClaimQueueService s
  | .inputRead a => Sys2Proof.Machine.execInputRead a s
  -- stream paths (R74 to R94)
  | .tunePath a => Sys2Proof.Machine.execTunePath a s
  | .stepPath a => Sys2Proof.Machine.execStepPath a s
  | .releasePath a => Sys2Proof.Machine.execReleasePath a s
  | .pathRead a => Sys2Proof.Machine.execPathRead a s
  | .boundaryExpiry p => Sys2Proof.Machine.execBoundaryExpiry p s
  -- entitlements (R97 to R117)
  | .purchase a => Sys2Proof.Machine.execPurchase a s
  | .tierExpiry tier => Sys2Proof.Machine.execTierExpiry tier s
  | .purchaseEndExpiry service event => Sys2Proof.Machine.execPurchaseEndExpiry service event s
  | .grant a => Sys2Proof.Machine.execGrant a s
  | .reportFetch a => Sys2Proof.Machine.execReportFetch a s
  | .reportClear a => Sys2Proof.Machine.execReportClear a s
  | .entitlementRead a => Sys2Proof.Machine.execEntitlementRead a s
  -- the card (R119 to R139)
  | .cardInsertion => Sys2Proof.Machine.execCardInsertion s
  | .cardRemoval => Sys2Proof.Machine.execCardRemoval s
  | .answerToReset => Sys2Proof.Machine.execAnswerToReset s
  | .cardResetExpiry => Sys2Proof.Machine.execCardResetExpiry s
  | .cardWakeExpiry => Sys2Proof.Machine.execCardWakeExpiry s
  | .cardDone tag payload => Sys2Proof.Machine.execCardDone tag payload s
  | .cardBusyReply tag => Sys2Proof.Machine.execCardBusyReply tag s
  | .cardReject tag reason => Sys2Proof.Machine.execCardReject tag reason s
  | .resendExpiry tag => Sys2Proof.Machine.execResendExpiry tag s
  | .transactionTimeout tag => Sys2Proof.Machine.execTransactionTimeout tag s
  | .tagRestEnd tag => Sys2Proof.Machine.execTagRestEnd tag s
  | .transactionDispatch => Sys2Proof.Machine.execTransactionDispatch s
  | .cardClockStop => Sys2Proof.Machine.execCardClockStop s
  | .cardStatus a => Sys2Proof.Machine.execCardStatus a s
  | .cardReset a => Sys2Proof.Machine.execCardReset a s
  | .faultRead a => Sys2Proof.Machine.execFaultRead a s
  | .faultClear a => Sys2Proof.Machine.execFaultClear a s
  -- parental limits (R143 to R154)
  | .profileSelect a => Sys2Proof.Machine.execProfileSelect a s
  | .profileWrite a => Sys2Proof.Machine.execProfileWrite a s
  | .unlock a => Sys2Proof.Machine.execUnlock a s
  | .extend a => Sys2Proof.Machine.execExtend a s
  | .parentalStatus a => Sys2Proof.Machine.execParentalStatus a s
  | .lockoutExpiry => Sys2Proof.Machine.execLockoutExpiry s
  | .minuteExpiry => Sys2Proof.Machine.execMinuteExpiry s
  | .edgeExpiry => Sys2Proof.Machine.execEdgeExpiry s
  | .rolloverExpiry => Sys2Proof.Machine.execRolloverExpiry s
  -- recording jobs (R158 to R165)
  | .jobAdd a => Sys2Proof.Machine.execJobAdd a s
  | .jobRemove a => Sys2Proof.Machine.execJobRemove a s
  | .jobList a => Sys2Proof.Machine.execJobList a s
  | .jobStart job => Sys2Proof.Machine.execJobStart job s
  | .startDueJobStart job => Sys2Proof.Machine.execStartDueJobStart job s
  | .graceExpiry job => Sys2Proof.Machine.execGraceExpiry job s
  | .jobEndExpiry job => Sys2Proof.Machine.execJobEndExpiry job s
  -- power and the stored image (R171 to R181)
  | .standby a => Sys2Proof.Machine.execStandby a s
  | .drainComplete => Sys2Proof.Machine.execDrainComplete s
  | .wake a => Sys2Proof.Machine.execWake a s
  | .powerStatus a => Sys2Proof.Machine.execPowerStatus a s
  | .partReset a => Sys2Proof.Machine.execPartReset a s
  | .commitDelayExpiry => Sys2Proof.Machine.execCommitDelayExpiry s
  | .writeBegin => Sys2Proof.Machine.execWriteBegin s
  | .flashWriteComplete => Sys2Proof.Machine.execFlashWriteComplete s
  | .flashWriteError => Sys2Proof.Machine.execFlashWriteError s
  | .writeTimeout => Sys2Proof.Machine.execWriteTimeout s
  | .cardReplyUnknownKind tag => Sys2Proof.Machine.execCardReplyUnknownKind tag s

end Sys2Proof.Machine
end

