-- ==== Sys2Proof/Machine/Due.lean ====
section
/-! DEFINITION. The command the part itself has due at the present count: an expiry that is reached, or the
request at the head of a link's queue (R5, R183; log entry 2). The order among several is the model's: the
manual lets actions of one count fall in either order. -/

namespace Sys2Proof.Machine

/-- The command that takes a request from the head of an agent's queue. -/
def Req.command : Req → Agent → Instr
  | .hello => .hello | .resign => .resign | .disable => .disable | .enable => .enable
  | .noticeMap => .noticeMap | .readNotices => .readNotices | .linkStatus => .linkStatus
  | .timeMark => .timeMark | .timeSource => .timeSource | .timeSet => .timeSet
  | .zoneSet => .zoneSet | .timeRead => .timeRead
  | .lineupBegin => .lineupBegin | .lineupAdd => .lineupAdd | .lineupEnd => .lineupEnd
  | .lineupRead => .lineupRead
  | .guideLoad => .guideLoad | .guideDrop => .guideDrop | .guideRead => .guideRead
  | .inputRead => .inputRead | .tunePath => .tunePath | .stepPath => .stepPath
  | .releasePath => .releasePath | .pathRead => .pathRead
  | .purchase => .purchase | .grant => .grant | .reportFetch => .reportFetch
  | .reportClear => .reportClear | .entitlementRead => .entitlementRead
  | .cardStatus => .cardStatus | .cardReset => .cardReset | .faultRead => .faultRead
  | .faultClear => .faultClear
  | .profileSelect => .profileSelect | .profileWrite => .profileWrite | .unlock => .unlock
  | .extend => .extend | .parentalStatus => .parentalStatus
  | .jobAdd => .jobAdd | .jobRemove => .jobRemove | .jobList => .jobList
  | .standby => .standby | .wake => .wake | .powerStatus => .powerStatus
  | .partReset => .partReset

/-- The command a link has due: the request at its head, or the refusal of an unknown one (R183, R184). -/
def linkDue (s : State) (a : Agent) : Option Instr :=
  (s.head a).map fun r =>
    match requestOf r.code with
    | some q => q.command a
    | none => .unknownRequest a

/-- A command when its expiry is reached. -/
def dueIf (s : State) (e : Option Count) (c : Instr) : Option Instr :=
  if s.reached e then some c else none

/-- The expiries of an input that are due. -/
def inputDue (s : State) (i : InputNo) : List (Option Instr) :=
  let x := s.input i
  [dueIf s (if x.state = .tuning then x.tuneTimeout else none) (.tuneTimeout i),
   dueIf s (if x.state = .lost then x.retune else none) (.retuneExpiry i)]

/-- The expiries of an outstanding entry that are due. -/
def entryDue (s : State) (e : Entry) : List (Option Instr) :=
  [dueIf s e.timeout (.transactionTimeout e.tag),
   dueIf s (if s.card.state = .ready then e.resend else none) (.resendExpiry e.tag)]

/-- The expiries of a job that are due. -/
def jobDue (s : State) (j : Job) : List (Option Instr) :=
  [dueIf s j.startExpiry (.jobStart j.id), dueIf s j.graceExpiry (.graceExpiry j.id),
   dueIf s j.endExpiry (.jobEndExpiry j.id)]

/-- The expiry of a transfer under way on a link that is UP. -/
def transferDue (l : Link) : Option Count := if l.up then l.transferExpiry else none

/-- Every expiry of the part and every link head, each as the command that is due, in the order in which the
model looks at them. -/
def dueList (s : State) : List (Option Instr) :=
  [dueIf s s.time.slewEnd .endOfSlewExpiry,
   dueIf s (if s.time.state = .set then s.time.holdover else none) .holdoverExpiry,
   dueIf s (some s.guide.sweepExpiry) .sweepExpiry] ++
  allInputs.flatMap (inputDue s) ++
  allPaths.map (fun p => dueIf s ((s.path p).boundary.map (·.expiry)) (.boundaryExpiry p)) ++
  s.access.tiers.map (fun r => dueIf s r.timer (.tierExpiry r.tier)) ++
  s.access.purchases.map (fun r => dueIf s r.timer (.purchaseEndExpiry r.service r.event)) ++
  [dueIf s (if s.card.state = .resetting then s.card.resetExpiry else none) .cardResetExpiry,
   dueIf s (if s.card.state = .waking then s.card.wakeExpiry else none) .cardWakeExpiry] ++
  s.card.outstanding.flatMap (entryDue s) ++
  allTags.map (fun t => dueIf s (s.card.resting.get t) (.tagRestEnd t)) ++
  [dueIf s s.parental.lockout .lockoutExpiry, dueIf s s.parental.minuteExpiry .minuteExpiry,
   dueIf s s.parental.edgeExpiry .edgeExpiry, dueIf s s.parental.rolloverExpiry .rolloverExpiry] ++
  s.jobs.list.flatMap (jobDue s) ++
  allAgents.map (fun a => dueIf s (transferDue (s.link a)) (.frameTimeout a)) ++
  [dueIf s s.store.commitDelay .commitDelayExpiry,
   dueIf s (s.store.write.map (·.timeout)) .writeTimeout] ++
  allAgents.map (linkDue s)

/-- The first command that is due, if any. -/
def dueCommand (s : State) : Option Instr := (dueList s).findSome? id

end Sys2Proof.Machine
end

