-- ==== Sys2Proof/Machine/Step.lean ====
section
/-! DEFINITION. The step of the part. -/

namespace Sys2Proof.Machine

/-- One step (log entries 1 and 2): the command at the front of the queue is taken. On an empty queue the
part takes the command it has due itself, and when none is due the local count advances by one (R1). -/
def step (s : State) : Host.Outcome State Fault Refusal :=
  match s.pending with
  | c :: rest => exec c (s.setPending rest)
  | [] =>
    match dueCommand s with
    | some c => exec c s
    | none => .next (s.setCount (s.localCount + 1))

/-- No row of the opcode table gives bits, so no word spells a command and the state is unchanged. -/
def State.withFetchWord (s : State) (_nbits _w : Nat) : State := s

end Sys2Proof.Machine
end

