-- ==== Sys2Proof/WellFormed.lean ====
section
/-! DEFINITION. Which commands are well formed: each operand lies in the range the manual gives it. -/

namespace Sys2Proof

/-- A frame as the four-byte header can spell it: link tag and request code in one byte each, body length
in two, and no more body than that length (00_scope, "Request and reply frames"). -/
def Frame.wf (f : Frame) : Bool :=
  decide (f.linkTag < 256 ∧ f.code < 256 ∧ f.length < 65536 ∧ f.body.length ≤ f.length)

/-- An arrival is well formed when the frame it ends with is. -/
def Arrival.wf : Arrival → Bool
  | .begins => true
  | .ends f => f.wf

/-- A packet has a stream tag 0..8190, or the time stream tag 8001 (00_scope, "Terms"; R7). -/
def Packet.wf (p : Packet) : Bool := decide (p.tag ≤ 8190)

/-- A command whose operands lie in their ranges: tune sequences 0..255 (R53), tier numbers 0..255 (R96),
service ids 1..65535 and event ids 0..65535 (R39), card tags in one byte, reject reasons 1..255 (R122), job
ids 1..255 (R157). -/
def Instr.wf : Instr → Bool
  | .frameArrival _ x => x.wf
  | .transportPacket _ p => p.wf
  | .tunerLock _ n => decide (n ≤ 255)
  | .tunerNoSignal _ n => decide (n ≤ 255)
  | .tunerUnlock _ n => decide (n ≤ 255)
  | .tierExpiry t => decide (t ≤ 255)
  | .purchaseEndExpiry sid eid => decide (1 ≤ sid ∧ sid ≤ 65535 ∧ eid ≤ 65535)
  | .cardDone t _ => decide (t ≤ 255)
  | .cardBusyReply t => decide (t ≤ 255)
  | .cardReject t r => decide (t ≤ 255 ∧ 1 ≤ r ∧ r ≤ 255)
  | .cardReplyUnknownKind t => decide (t ≤ 255)
  | .resendExpiry t => decide (t ≤ 3)
  | .transactionTimeout t => decide (t ≤ 3)
  | .jobStart j => decide (1 ≤ j ∧ j ≤ 255)
  | .startDueJobStart j => decide (1 ≤ j ∧ j ≤ 255)
  | .graceExpiry j => decide (1 ≤ j ∧ j ≤ 255)
  | .jobEndExpiry j => decide (1 ≤ j ∧ j ≤ 255)
  | .powerReset | .frameTimeout _ | .agentResetHeld _ | .agentResetReleased _
  | .unknownRequest _ | .hello _ | .resign _ | .disable _ | .enable _ | .noticeMap _
  | .readNotices _ | .linkStatus _ | .timeMark _ | .timeSource _ | .timeSet _ | .zoneSet _
  | .timeRead _ | .endOfSlewExpiry | .holdoverExpiry | .lineupBegin _ | .lineupAdd _
  | .lineupEnd _ | .lineupRead _ | .guideLoad _ | .guideDrop _ | .guideRead _ | .sweepExpiry
  | .tuneTimeout _ | .retuneExpiry _ | .claimQueueService | .inputRead _ | .tunePath _
  | .stepPath _ | .releasePath _ | .pathRead _ | .boundaryExpiry _ | .purchase _ | .grant _
  | .reportFetch _ | .reportClear _ | .entitlementRead _ | .cardInsertion | .cardRemoval
  | .answerToReset | .cardResetExpiry | .cardWakeExpiry | .tagRestEnd _ | .transactionDispatch
  | .cardClockStop | .cardStatus _ | .cardReset _ | .faultRead _ | .faultClear _
  | .profileSelect _ | .profileWrite _ | .unlock _ | .extend _ | .parentalStatus _
  | .lockoutExpiry | .minuteExpiry | .edgeExpiry | .rolloverExpiry | .jobAdd _ | .jobRemove _
  | .jobList _ | .standby _ | .drainComplete | .wake _ | .powerStatus _ | .partReset _
  | .commitDelayExpiry | .writeBegin | .flashWriteComplete | .flashWriteError
  | .writeTimeout => true

end Sys2Proof
end

