-- ==== Sys2Proof/Safety.lean ====
section
/-! DEFINITION. The terms in which statements speak of the part: a request at the head of a link, the
invariants that the manual states, and what the end of an action leaves as it was. -/

namespace Sys2Proof.Machine

/-! ## Frames -/

/-- The fields of `State`. -/
inductive Field where
  | localCount | time | lineup | staging | guide | inputs | claimQueue
  | paths | access | card | parental | jobs | power | store
  | agents | lead | leadNotices | noticeMap | sent | gatesDue | pending
  deriving DecidableEq, Repr

/-- A field reads the same in two states. -/
def Same (s t : State) : Field → Prop
  | .localCount => t.localCount = s.localCount
  | .time => t.time = s.time
  | .lineup => t.lineup = s.lineup
  | .staging => t.staging = s.staging
  | .guide => t.guide = s.guide
  | .inputs => t.inputs = s.inputs
  | .claimQueue => t.claimQueue = s.claimQueue
  | .paths => t.paths = s.paths
  | .access => t.access = s.access
  | .card => t.card = s.card
  | .parental => t.parental = s.parental
  | .jobs => t.jobs = s.jobs
  | .power => t.power = s.power
  | .store => t.store = s.store
  | .agents => t.agents = s.agents
  | .lead => t.lead = s.lead
  | .leadNotices => t.leadNotices = s.leadNotices
  | .noticeMap => t.noticeMap = s.noticeMap
  | .sent => t.sent = s.sent
  | .gatesDue => t.gatesDue = s.gatesDue
  | .pending => t.pending = s.pending

/-- The second state differs from the first in the listed fields alone. -/
def Only (fs : List Field) (s t : State) : Prop := ∀ f, f ∉ fs → Same s t f

/-- What a change of a stored item with its notice, and its answer, changes beside the item. -/
abbrev fSaved : List Field := [.store, .sent, .agents, .leadNotices]

/-- What the end of an action can change: everything but the count, staging, the guide, the lead, the notice
map and the waiting commands. -/
abbrev fEnd : List Field :=
  [.time, .lineup, .inputs, .claimQueue, .paths, .access, .card, .parental, .jobs, .power, .store,
   .agents, .leadNotices, .sent, .gatesDue]

/-- What an answer changes: the link's queue and what has been sent. -/
abbrev fAnswer : List Field := [.agents, .sent]

/-- The fields a command can change. A command that ends an action with what the end of an action does (R86,
R66, R161, R123, R139, R172, R174) can change what that changes. -/
def touched : Instr → List Field
  -- resets, links and the lead
  | .powerReset =>
    [.localCount, .time, .lineup, .staging, .guide, .inputs, .claimQueue, .paths, .access, .card, .parental,
     .jobs, .power, .store, .agents, .lead, .leadNotices, .noticeMap, .sent, .gatesDue]
  | .frameArrival _ _ => fAnswer
  | .frameTimeout a => if a = .network then .staging :: .lead :: fEnd else .lead :: fEnd
  | .agentResetHeld a => if a = .network then .staging :: .lead :: fEnd else .lead :: fEnd
  | .agentResetReleased _ => [.agents]
  | .unknownRequest _ => fAnswer
  | .hello _ => [.agents, .lead, .leadNotices, .sent]
  | .resign _ => [.agents, .lead, .leadNotices, .sent]
  | .disable _ => [.agents, .store, .sent]
  | .enable _ => [.agents, .store, .sent]
  | .noticeMap _ => .noticeMap :: fSaved
  | .readNotices _ => [.agents, .leadNotices, .sent]
  | .linkStatus _ => fAnswer
  -- network time
  | .timeMark _ => .guide :: fEnd
  | .timeSource _ => [.time, .store, .agents, .sent]
  | .timeSet _ => .guide :: fEnd
  | .zoneSet _ => fEnd
  | .timeRead _ => fAnswer
  | .endOfSlewExpiry => fEnd
  | .holdoverExpiry => [.time, .agents, .leadNotices]
  | .transportPacket _ pkt => if pkt.tag = 8001 then .guide :: fEnd else fEnd
  -- the lineup
  | .lineupBegin _ => .staging :: fAnswer
  | .lineupAdd _ => .staging :: fAnswer
  | .lineupEnd _ => .staging :: fEnd
  | .lineupRead _ => fAnswer
  -- the guide
  | .guideLoad _ => .guide :: fEnd
  | .guideDrop _ => .guide :: fEnd
  | .guideRead _ => fAnswer
  | .sweepExpiry => .guide :: fEnd
  -- carrier inputs
  | .tunerLock _ _ => fEnd
  | .tunerNoSignal _ _ => fEnd
  | .tunerUnlock _ _ => fEnd
  | .tuneTimeout _ => fEnd
  | .retuneExpiry _ => [.inputs, .sent]
  | .claimQueueService => fEnd
  | .inputRead _ => fAnswer
  -- stream paths
  | .tunePath _ => fEnd
  | .stepPath _ => fEnd
  | .releasePath _ => fEnd
  | .pathRead _ => fAnswer
  | .boundaryExpiry _ => fEnd
  -- entitlements
  | .purchase _ => fEnd
  | .tierExpiry _ => fEnd
  | .purchaseEndExpiry _ _ => fEnd
  | .grant _ => fEnd
  | .reportFetch _ => .access :: fAnswer
  | .reportClear _ => fEnd
  | .entitlementRead _ => fAnswer
  -- the card
  | .cardInsertion => fEnd
  | .cardRemoval => fEnd
  | .answerToReset => fEnd
  | .cardResetExpiry => fEnd
  | .cardWakeExpiry => fEnd
  | .cardDone _ _ => fEnd
  | .cardBusyReply _ => fEnd
  | .cardReject _ _ => fEnd
  | .resendExpiry _ => [.card, .sent]
  | .transactionTimeout _ => fEnd
  | .tagRestEnd _ => fEnd
  | .transactionDispatch => fEnd
  | .cardClockStop => fEnd
  | .cardStatus _ => fAnswer
  | .cardReset _ => fEnd
  | .faultRead _ => fAnswer
  | .faultClear _ => .card :: fAnswer
  -- parental limits
  | .profileSelect _ => fEnd
  | .profileWrite _ => fEnd
  | .unlock _ => fEnd
  | .extend _ => fEnd
  | .parentalStatus _ => fAnswer
  | .lockoutExpiry => .parental :: fSaved
  | .minuteExpiry => fEnd
  | .edgeExpiry => fEnd
  | .rolloverExpiry => fEnd
  -- recording jobs
  | .jobAdd _ => fEnd
  | .jobRemove _ => fEnd
  | .jobList _ => fAnswer
  | .jobStart _ => fEnd
  | .startDueJobStart _ => fEnd
  | .graceExpiry _ => fEnd
  | .jobEndExpiry _ => fEnd
  -- power and the stored image
  | .standby _ => fEnd
  | .drainComplete => fEnd
  | .wake _ => fEnd
  | .powerStatus _ => fAnswer
  | .partReset _ => .staging :: fEnd
  | .commitDelayExpiry => [.store, .sent]
  | .writeBegin => [.store, .sent]
  | .flashWriteComplete => fEnd
  | .flashWriteError => fEnd
  | .writeTimeout => fEnd
  | .cardReplyUnknownKind _ => [.card, .agents, .leadNotices]

/-! ## Requests at the head of a link -/

/-- A request of a code and a body stands at the head of an agent's queue, before `rest`, and is not a
GRANT that waits for its VERIFY (R183). -/
structure AtHead (s : State) (a : Agent) (q : Req) (tag : Nat) (body : List Byte)
    (rest : List Request) : Prop where
  queue : (s.link a).queue = ⟨tag, q.code, body⟩ :: rest
  free  : (s.link a).waiting = false

/-- A request at the head that passes the checks of R184. -/
structure Taken (s : State) (a : Agent) (q : Req) (tag : Nat) (body : List Byte)
    (rest : List Request) : Prop extends AtHead s a q tag body rest where
  passes : headRefusal q a body s = none

/-- The state after a reply alone: the request has left its queue and the reply frame has been sent. -/
def answeredState (s : State) (a : Agent) (tag : Nat) (rest : List Request) (st : Status)
    (body : List Byte) : State :=
  (s.setLink a { s.link a with queue := rest, waiting := false }).setSent
    (s.sent ++ [.reply a tag st body])

/-- A request has been answered: it has left its queue, and its reply stands among what was sent since. -/
structure Answers (s t : State) (a : Agent) (tag : Nat) (rest : List Request) (st : Status)
    (body : List Byte) : Prop where
  queue : (t.link a).queue = rest
  free  : (t.link a).waiting = false
  sent  : ∃ x y, t.sent = s.sent ++ x ++ .reply a tag st body :: y

/-! ## Invariants -/

/-- The lead, when there is one, is an agent whose link is UP, that is ready and that is not disabled
(R189). -/
def LeadOk (s : State) : Prop := ∀ a, s.lead = some a → eligible s a = true

/-- The credit balance lies in 0..1,000,000 (R100). -/
def BalanceOk (s : State) : Prop := s.access.balance ≤ 1000000

/-- The rate and the zone lie in their ranges (R2). -/
def ClockOk (s : State) : Prop :=
  (64881 ≤ s.time.rate ∧ s.time.rate ≤ 66191) ∧ (-720 ≤ s.time.zone ∧ s.time.zone ≤ 840)

/-- The attempt counter lies in 0..2 (R140). -/
def AttemptsOk (s : State) : Prop := s.parental.attempts ≤ 2

/-- Every link queue holds at most 4 requests, and a link that is DOWN holds none (R182, R187). -/
def QueuesOk (s : State) : Prop :=
  ∀ a, (s.link a).queue.length ≤ 4 ∧ ((s.link a).up = false → (s.link a).queue = [])

/-- No two events of one service overlap or share an event id, and the pool holds at most 4096 (R38, R39). -/
def GuideOk (s : State) : Prop :=
  s.guide.pool.Pairwise (fun e f =>
    e.service = f.service → e.id ≠ f.id ∧ e.overlaps f = false) ∧ s.guide.pool.length ≤ 4096

/-- A path without a snapshot is IDLE (R70), and outside ACTIVE the view paths hold none (R170). -/
def ViewsOk (s : State) : Prop :=
  (∀ p, (s.path p).snapshot = none → ∃ r, (s.path p).state = .idle r) ∧
    (s.power.state ≠ .active → ∀ p : PathNo, p.val < 2 → (s.path p).snapshot = none)

/-- The waiting queue of the Card Link holds at most 8 transactions (R118). -/
def WaitingOk (s : State) : Prop := s.card.waiting.length ≤ 8

/-- The in-band input is the lowest-numbered LOCKED input, or none (R7). -/
def InBandOk (s : State) : Prop := s.time.inBandInput = lowestLocked s

/-- What the Carrier Arbiter and the Stream Paths keep between them. -/
structure HoldersOk (s : State) : Prop where
  /-- a path is a holder of the input it holds, and of no other (R53, R70) -/
  held    : ∀ i p, p ∈ (s.input i).holders ↔ (s.path p).heldInput = some i
  /-- holders stand in ascending path order (R53) -/
  sorted  : ∀ i, (s.input i).holders.Pairwise (· < ·)
  /-- an input is FREE exactly when it has no holder (R64), and has a carrier exactly when it is not -/
  free    : ∀ i, ((s.input i).state = .free ↔ (s.input i).holders = []) ∧
    ((s.input i).state = .free ↔ (s.input i).carrier = none)
  /-- a path without a service holds no input (R64) -/
  idle    : ∀ p, (s.path p).snapshot = none → (s.path p).heldInput = none
  /-- a record path with a service holds an input: its claim is always served (R62) -/
  record  : ∀ p : PathNo, 2 ≤ p.val → (s.path p).snapshot ≠ none → (s.path p).heldInput ≠ none
  /-- the claim queue holds the view paths with a service and without an input, each once (R65) -/
  waiting : s.claimQueue.Nodup ∧ ∀ p, p ∈ s.claimQueue ↔
    p.val < 2 ∧ (s.path p).snapshot ≠ none ∧ (s.path p).heldInput = none
  /-- a record path is never BLOCKED and never STALLED(INPUT_TAKEN) (R71) -/
  never   : ∀ p : PathNo, 2 ≤ p.val → (s.path p).state ≠ .stalled .inputTaken ∧
    ∀ r, (s.path p).state ≠ .blocked r

/-- The tables keep their sizes and their order: 64 tier records in ascending order of tier number, one for each
(R95, R96), 64 purchase records, one for each service id and event id (R101), 32 jobs of different ids (R156,
R157), 96 carriers and 768 services in the staging lineup (R22), and at most one outstanding transaction for each
card tag 0..3 (R122). -/
structure TablesOk (s : State) : Prop where
  tiers       : s.access.tiers.length ≤ 64 ∧ s.access.tiers.Pairwise fun r q => r.tier < q.tier
  purchases   : s.access.purchases.length ≤ 64 ∧
    s.access.purchases.Pairwise fun r q => r.service ≠ q.service ∨ r.event ≠ q.event
  jobs        : s.jobs.list.length ≤ 32 ∧ (s.jobs.list.map (·.id)).Nodup
  staging     : ∀ l, s.staging = some l → l.carriers.length ≤ 96 ∧ l.services.length ≤ 768
  outstanding : (s.card.outstanding.map (·.tag)).Nodup ∧ ∀ e ∈ s.card.outstanding, e.tag < 4

/-- The meter runs exactly while a view path is PRESENTING, a minute expiry stands only while it runs, and no view
path is PRESENTING under an active profile at its limit (R150). -/
structure MeterOk (s : State) : Prop where
  runs   : s.parental.run ≠ none ↔ ∃ p : PathNo, p.val < 2 ∧ (s.path p).state = .presenting
  minute : s.parental.minuteExpiry ≠ none → s.parental.run ≠ none
  limit  : s.parental.allowed s.parental.active < 1440 →
    s.parental.allowed s.parental.active ≤ s.parental.activeMeter.used →
    ∀ p : PathNo, p.val < 2 → (s.path p).state ≠ .presenting

/-! ## Parts of the state that the end of an action leaves -/

/-- The Time Base but for what the carrier inputs decide: the in-band input, and an in-band prev mark (R2,
R7). -/
def clockOf (t : TimeBase) : TimeBase :=
  { t with inBandInput := none, prevMark := t.prevMark.filter fun m => m.source != .inBand }

/-- What a link holds but for its pending set. -/
def linkCore (l : Link) : Link := { l with notices := [] }

/-- The Parental Unit but for the meters' run: used minutes, partials, run and minute expiry. -/
def parentalCore (u : Parental) : Parental :=
  { u with meters := u.meters.map fun m => { m with used := 0, partialMs := 0 }
           run := none, minuteExpiry := none }

/-- A start due job is SCHEDULED, and the active lineup holds its service (R157, R161, R36). -/
def StartDueOk (s : State) : Prop :=
  ∀ j ∈ s.jobs.list, j.startDue = true →
    j.state = .scheduled ∧ (s.lineup.service j.service).isSome = true

/-- No job waits for a record path (R161). -/
def NoStartDue (s : State) : Prop := s.jobs.list.all (fun j => !j.startDue) = true

/-- The state as an action leaves it, with nothing that the end of an action would still do: no gate is named
(R86), the claim queue is empty or no input is FREE (R66), no start due job finds an IDLE record path (R161),
no transaction can be sent (R123), the card is not to be idled (R139), SERVICE follows the card (R174) and
QUIESCING does not end (R172). -/
structure Settled (s : State) : Prop where
  gates    : s.gatesDue = []
  queue    : s.claimQueue = [] ∨ lowestFree s = none
  startDue : NoStartDue s ∨ idleRecordPath s = none
  dispatch : s.card.waiting = [] ∨ s.card.state ≠ .ready ∨ freeTag s.card = none
  idle     : cardIdle s = false
  service  : inStandby s = true →
    (s.power.state = .service ↔ s.card.state = .waking ∨ s.card.state = .ready)
  drain    : s.power.state = .quiescing → drained s = false

/-! ## Terms of single statements -/

/-- The agent that an election chooses, leaving out `out` (R189). -/
def electee (s : State) (out : Option Agent) : Option Agent :=
  allAgents.find? fun b => eligible s b && out != some b

/-- No VERIFY at the Card Link has a reply due on an agent's link. -/
def NoneDue (s : State) (a : Agent) : Prop :=
  ∀ tx, (tx ∈ s.card.waiting ∨ ∃ e ∈ s.card.outstanding, e.tx = tx) →
    ∀ l tag m, tx = .verify l tag m true → l ≠ a

/-- A channel change is asked for on a view path: the command, the path and the service found (R74, R75). -/
inductive Asks (s : State) (a : Agent) (tag : Nat) (rest : List Request) :
    Instr → PathNo → Option Service → Prop where
  | byId (body : List Byte) (p : PathNo) (x : Nat)
      (taken : Taken s a .tunePath tag body rest) (view : p.val < 2)
      (named : fields [1, 1, 2] body = some [p.val, 1, x]) (inRange : 1 ≤ x) :
      Asks s a tag rest (.tunePath a) p (s.lineup.service x)
  | byChannel (body : List Byte) (p : PathNo) (x : Nat)
      (taken : Taken s a .tunePath tag body rest) (view : p.val < 2)
      (named : fields [1, 1, 2] body = some [p.val, 2, x]) (inRange : 1 ≤ x ∧ x ≤ 9999) :
      Asks s a tag rest (.tunePath a) p (s.lineup.byChannel x)
  | up (body : List Byte) (p : PathNo)
      (taken : Taken s a .stepPath tag body rest) (view : p.val < 2)
      (named : fields [1, 1] body = some [p.val, 1]) :
      Asks s a tag rest (.stepPath a) p (stepFound s p true)
  | down (body : List Byte) (p : PathNo)
      (taken : Taken s a .stepPath tag body rest) (view : p.val < 2)
      (named : fields [1, 1] body = some [p.val, 2]) :
      Asks s a tag rest (.stepPath a) p (stepFound s p false)

/-- What a path sends out of a packet on one of its component stream tags (R88). -/
def forwarded (s : State) (pkt : Packet) (p : PathNo) : Option Sent :=
  match (s.path p).snapshot with
  | none => none
  | some v =>
    if (v.components.any fun c => c.tag == pkt.tag) = true ∧ (s.path p).state = .presenting then
      match pkt.mark with
      | .clear => some (.packet p pkt.tag pkt.payload)
      | .phase .a =>
        (s.path p).slotA.loaded.map fun k => .packet p pkt.tag (Config.descramble k.key pkt.payload)
      | .phase .b =>
        (s.path p).slotB.loaded.map fun k => .packet p pkt.tag (Config.descramble k.key pkt.payload)
    else none

/-- What the buy at the start of a job with the buy flag does, read at the state before the start (R106, R162): the
failure it leads to, and the Access Unit after it. Without the buy flag, and where the event is bought already, is
not for sale or has ended, nothing is bought and the start goes on. -/
def buyOutcome (s : State) (j : Job) : Option FailReason × Access :=
  match j.buy, j.trigger with
  | true, .event e =>
    match s.access.bought j.service e, forSale s j.service e with
    | none, some g =>
      if g.start + g.duration ≤ s.netSec then (none, s.access)
      else if 64 ≤ s.access.purchases.length then (some .listFull, s.access)
      else if s.access.balance < g.price then (some .noCredit, s.access)
      else (none, { s.access with
        balance := s.access.balance - g.price
        purchases := s.access.purchases ++
          [⟨j.service, e, g.start, g.start + g.duration, g.price, s.netSec, false, false, false,
            some (s.expiryOfSec (g.start + g.duration : Nat))⟩] })
    | _, _ => (none, s.access)
  | _, _ => (none, s.access)

/-- The least number with a property. -/
def Least (holds : Nat → Prop) (n : Nat) : Prop := holds n ∧ ∀ k, holds k → n ≤ k

end Sys2Proof.Machine
end

