-- ==== Sys2Proof/Certificates/Slice0/Obligations.lean ====
section
/-! DEFINITION. The statements for the provers. Each is a proposition named `Obligations.<Name>`;
OBLIGATIONS.json lists them. `Taken s a q tag body rest` says that a request stands at the head of an agent's
queue and passes the checks of R184; `answeredState` is the state after a reply alone; `Answers` says that the
reply has been sent; `Only fs s t` is the frame: every field outside `fs` reads as before. -/

open Sys2Proof Sys2Proof.Machine

/-! ## The queue of commands -/

/-- A step takes the command at the front of the queue and runs it on the state with the queue's rest (log
entry 1).

On an empty queue the part takes the command it has due itself, and when none is due the local count
advances by one and nothing else changes (R1; the order of due commands and the tick are the model's, log
entry 2). -/
def Obligations.StepTakesFront : Prop :=
  (∀ (c : Instr) (s : State) (rest : List Instr),
    s.pending = c :: rest → step s = exec c (s.setPending rest)) ∧
  (∀ s : State, s.pending = [] →
    (∀ c, dueCommand s = some c → step s = exec c s) ∧
    (dueCommand s = none → step s = .next (s.setCount (s.localCount + 1))))

/-- Every command completes in every state, and changes only those parts of the state that `touched` lists for
it: no command changes the waiting commands; the guide is changed by the guide's own requests, the sweep and a
clock that is set; the notice map by NOTICE MAP; the lead by HELLO, RESIGN and link resets; and every part by
power reset. (The manual gives each command an effect, an answer or a discarding.)

No command moves the local count but power reset, which sets it to 0 (R1). -/
def Obligations.CommandsComplete : Prop :=
  (∀ (c : Instr) (s : State), ∃ t, exec c s = .next t ∧ Only (touched c) s t) ∧
  (∀ (c : Instr) (s t : State), exec c s = .next t →
    t.localCount = if c = .powerReset then 0 else s.localCount)

/-! ## Resets -/

/-- What the part holds right after a power reset that found a bad image, no card present and the reset lines
released (the tables of R2, R22, R38, R53, R70, R95, R118, R140, R156, R170, R176, R186 and R191; that the image
is bad, the card absent and the lines released is the model's choice, log entries 6 and 7). -/
def Obligations.ResetState : Prop :=
  let r := State.reset
  r.localCount = 0 ∧
  r.time.state = .unset ∧ r.time.baseL = 0 ∧ r.time.baseT = 0 ∧ r.time.rate = 65536 ∧ r.time.slew = 0 ∧
  r.time.slewEnd = none ∧ r.time.holdover = none ∧ r.time.prevMark = none ∧
  r.time.source = .outOfBand ∧ r.time.inBandInput = none ∧ r.time.zone = 0 ∧
  r.lineup = ⟨0, [], []⟩ ∧ r.staging = none ∧ r.guide = ⟨[], 60000⟩ ∧
  (∀ i, r.input i = ⟨.free, none, [], 0, 0, none, none⟩) ∧ r.claimQueue = [] ∧
  (∀ p, (r.path p).state = .idle .reset ∧ (r.path p).snapshot = none ∧
    (r.path p).lastService = none ∧ (r.path p).heldInput = none ∧ (r.path p).currentEvent = none ∧
    (r.path p).boundary = none ∧ (r.path p).slotA = ⟨none, none⟩ ∧ (r.path p).slotB = ⟨none, none⟩ ∧
    (r.path p).unlock = none ∧ (r.path p).job = none ∧ (r.path p).lastChange = 0) ∧
  r.access = ⟨[], 0, [], false, 0⟩ ∧
  r.card.state = .absent ∧ r.card.outstanding = [] ∧ r.card.waiting = [] ∧ r.card.failures = 0 ∧
  r.card.capture = none ∧ (∀ t, r.card.resting.get t = none) ∧
  r.parental.masterPin = ⟨0, 0, 0, 0⟩ ∧ r.parental.startProfile = 0 ∧ r.parental.active = 0 ∧
  r.parental.attempts = 0 ∧ r.parental.lockout = none ∧ r.parental.run = none ∧
  r.parental.lastRollover = none ∧ r.parental.side = .none ∧
  (∀ n, r.parental.profiles.get n = ⟨7, [], false, false, 1440, 0, 0, ⟨0, 0, 0, 0⟩⟩) ∧
  (∀ n, r.parental.meters.get n = ⟨0, 0, 0⟩) ∧
  r.jobs = ⟨[], 0⟩ ∧ r.power = ⟨.active, none⟩ ∧
  r.store.dirty = [.lineup, .access, .parental, .jobs, .settings] ∧ r.store.dirtySince = some 0 ∧
  r.store.commitDelay = some 2000 ∧ r.store.write = none ∧ r.store.loadGood = false ∧
  r.store.lastWrite = .none ∧
  (∀ a, (r.link a).queue = [] ∧ (r.link a).ready = false ∧ (r.link a).disabled = false ∧
    (r.link a).notices = []) ∧
  r.lead = none ∧
  (∀ c, r.targetOf c = match c with
    | .job => .agent .panel
    | .card => .lead
    | .fault => .lead
    | .time => .lead
    | .lead => .lead
    | .power => .everyAgent
    | _ => .agent .media)

/-- What every power reset leaves, whatever the state before it and whatever the image: the count at 0, no network
time, an empty guide and freed inputs, IDLE paths, ACTIVE power, no lead, and links with empty queues whose reset
lines stand as they did (R2, R38, R53, R70, R170, R186); a card at the insertion detect (log entry 24) is reset again
with a reset expiry of 500 (R118). From a good image each owner takes its items, the image is clean and the load
outcome GOOD; after a bad one the defaults stand, all five sections are dirty, the commit delay is 2,000 and a FAULT
notice is pending (R179). -/
def Obligations.PowerReset : Prop :=
  ∀ s : State, ∃ t, exec .powerReset s = .next t ∧
    (t.localCount = 0 ∧ t.time.state = .unset ∧ t.time.rate = 65536 ∧ t.time.slew = 0 ∧
      t.staging = none ∧ t.guide = ⟨[], 60000⟩ ∧ t.claimQueue = [] ∧ t.lead = none ∧
      t.power = ⟨.active, none⟩ ∧ t.store.write = none ∧ t.store.lastWrite = .none ∧
      t.store.flash = s.store.flash ∧ t.access.batchOpen = false ∧ t.access.batchNumber = 0 ∧
      t.parental.run = none ∧ t.parental.lastRollover = none ∧ t.card.capture = none ∧
      t.card.failures = 0 ∧ t.card.outstanding = [] ∧ t.card.waiting = []) ∧
    (∀ i, t.input i = ⟨.free, none, [], 0, 0, none, none⟩) ∧
    (∀ p, (t.path p).state = .idle .reset ∧ (t.path p).snapshot = none) ∧
    (∀ a, (t.link a).up = (s.link a).up ∧ (t.link a).queue = [] ∧ (t.link a).ready = false ∧
      (t.link a).notices = []) ∧
    (t.card.state, t.card.resetExpiry) =
      (if s.card.state = .absent then (.absent, none) else (.resetting, some 500)) ∧
    (∀ m, goodImage s.store.flash = some m →
      t.lineup = m.lineup ∧ t.access.tiers = m.tiers ∧ t.access.balance = m.balance ∧
      t.access.purchases = m.purchases ∧ t.parental.profiles = m.profiles ∧
      t.parental.masterPin = m.masterPin ∧ t.parental.startProfile = m.startProfile ∧
      t.parental.active = m.startProfile ∧ t.parental.attempts = m.attempts ∧
      t.parental.lockout = (if 0 < m.lockoutLeft then some m.lockoutLeft else none) ∧
      t.parental.meters = m.meters ∧ t.jobs.lastId = m.jobs.lastId ∧
      t.jobs.list.map (·.id) = m.jobs.list.map (·.id) ∧
      (∀ j ∈ t.jobs.list, j.state ≠ .active ∧ j.path = none ∧ j.startDue = false ∧
        j.startExpiry = none ∧ j.endExpiry = none ∧ j.graceExpiry = none) ∧
      t.time.zone = m.zone ∧ t.time.source = m.source ∧ t.noticeMap = m.noticeMap ∧
      (∀ a, (t.link a).disabled = m.disabled.get a) ∧
      t.store.loadGood = true ∧ t.store.dirty = [] ∧ t.store.dirtySince = none ∧
      t.store.commitDelay = none ∧ t.leadNotices = []) ∧
    (goodImage s.store.flash = none →
      t.lineup = ⟨0, [], []⟩ ∧ t.access.tiers = [] ∧ t.access.balance = 0 ∧ t.access.purchases = [] ∧
      t.parental.masterPin = ⟨0, 0, 0, 0⟩ ∧ t.parental.active = 0 ∧ t.parental.attempts = 0 ∧
      t.parental.lockout = none ∧ (∀ n, t.parental.meters.get n = ⟨0, 0, 0⟩) ∧
      t.jobs = ⟨[], 0⟩ ∧ t.time.zone = 0 ∧ t.time.source = .outOfBand ∧
      t.noticeMap = defaultNoticeMap ∧ (∀ a, (t.link a).disabled = false) ∧
      t.store.loadGood = false ∧ t.store.dirty = [.lineup, .access, .parental, .jobs, .settings] ∧
      t.store.dirtySince = some 0 ∧ t.store.commitDelay = some 2000 ∧ t.leadNotices = [.fault])

/-- PART RESET from the lead is answered OK first and then taken, block by block (R180): staging and held commit
discarded, the report batch closed, the card's tables and capture empty and a present card RESETTING, the power
state ACTIVE, every link queue empty; the lead, the notice map, the guide, the lineup, the tier records and the
clock but for the in-band input are kept, and so are the balance and the purchase records when no job buys its
event (R53, R70, R95, R116, R118). A write in progress runs on. The view paths are IDLE(RESET), without event,
boundary and unlock. The meter stops, and the Parental Unit keeps all else (R151). The pending notices are cleared
first: of the classes that the reset's actions do not raise none is left, and POWER only when the state was not
ACTIVE. (The order of the blocks is the model's, log entry 35.)

An ACTIVE or SCHEDULED job within its span starts again (R168): it is ACTIVE on a record path with a new grace,
start due, or FAILED when it cannot start. Another one is SCHEDULED without path, grace and end expiry, with the
start expiry it had, or else that of its effective start; at a span that has ended this is the model's reading (log
entry 18). A finished one stays. When no job starts again every path is IDLE(RESET) and every input FREE with its
sequence and tune start kept. -/
def Obligations.PartReset : Prop :=
  ∀ (s : State) (a : Agent) (tag : Nat) (rest : List Request), Taken s a .partReset tag [] rest →
    let inSpan (j : Job) : Prop := (j.state = .scheduled ∨ j.state = .active) ∧ s.time.state ≠ .unset ∧
      j.effStart ≤ (s.netSec : Int) ∧ (s.netSec : Int) < j.effStop
    ∃ t, exec (.partReset a) s = .next t ∧
      (∃ y, t.sent = s.sent ++ .reply a tag .ok [] :: y) ∧
      t.power = ⟨.active, none⟩ ∧ t.staging = none ∧ t.access.batchOpen = false ∧
      (∀ r ∈ t.access.purchases, r.inBatch = false) ∧ t.access.batchNumber = s.access.batchNumber ∧
      t.access.tiers = s.access.tiers ∧
      ((∀ j ∈ s.jobs.list, j.buy = false) → t.access.balance = s.access.balance ∧
        t.access.purchases = s.access.purchases.map fun r => { r with inBatch := false }) ∧
      (∀ p : PathNo, p.val < 2 → t.path p = resetPath) ∧
      ((∀ j ∈ s.jobs.list, ¬ inSpan j) → (∀ p, t.path p = resetPath) ∧ ∀ i, t.input i = { s.input i with
        state := .free, carrier := none, holders := [], tuneTimeout := none, retune := none }) ∧
      t.claimQueue = [] ∧ t.time.inBandInput = none ∧ clockOf t.time = clockOf s.time ∧
      t.card.outstanding = [] ∧ t.card.waiting = [] ∧ t.card.capture = none ∧ t.card.failures = 0 ∧
      t.card.wakeExpiry = none ∧ (∀ k, t.card.resting.get k = none) ∧
      (t.card.state, t.card.resetExpiry) =
        (if s.card.state = .absent then (.absent, none) else (.resetting, some (s.localCount + 500))) ∧
      (∀ b, (t.link b).queue = [] ∧ (t.link b).waiting = false ∧ (t.link b).ready = (s.link b).ready ∧
        (t.link b).disabled = (s.link b).disabled ∧ (t.link b).up = (s.link b).up ∧
        (.power ∈ (t.link b).notices ↔
          s.power.state ≠ .active ∧ (s.link b).up = true ∧ (s.link b).disabled = false)) ∧
      (∀ c ∈ [NoticeClass.guide, .lineup, .fault, .lead],
        c ∉ t.leadNotices ∧ ∀ b, c ∉ (t.link b).notices) ∧
      t.parental.run = none ∧ parentalCore t.parental = parentalCore s.parental ∧
      ((s.parental.minuteExpiry ≠ none → s.parental.run ≠ none) → t.parental.minuteExpiry = none) ∧
      (∀ w, s.store.write = some w → t.store.write = some w ∧ t.store.flash = s.store.flash) ∧
      (TablesOk s → ∀ j ∈ s.jobs.list,
        let lost : Job := { j with path := none, startDue := false, endExpiry := none, graceExpiry := none }
        (j.state ≠ .scheduled → j.state ≠ .active → t.job j.id = some lost) ∧
        ((j.state = .scheduled ∨ j.state = .active) → ¬ inSpan j →
          t.job j.id = some { lost with
            state := .scheduled
            startExpiry := match j.startExpiry with
              | some e => some e
              | none => if s.timeKnown then some (s.expiryOfSec j.effStart) else none }) ∧
        (inSpan j → ∃ k, t.job j.id = some k ∧ k.start = j.start ∧ k.stop = j.stop ∧
          ((k.state = .active ∧ k.graceExpiry = some (s.localCount + 30000) ∧
              k.actualStart = some (j.actualStart.getD s.netSec) ∧
              ∃ p : PathNo, 2 ≤ p.val ∧ k.path = some p ∧ (t.path p).job = some j.id) ∨
            (k.state = .scheduled ∧ k.startDue = true ∧ k.endExpiry = some (s.expiryOfSec j.effStop)) ∨
            k.state = .failed .serviceRemoved ∨
            j.buy = true ∧ (k.state = .failed .noCredit ∨ k.state = .failed .listFull)))) ∧
      t.lead = s.lead ∧ t.noticeMap = s.noticeMap ∧ t.guide = s.guide ∧ t.lineup = s.lineup

/-! ## Agent links, lead and notices -/

/-- What an arriving frame does (R182): nothing while the link is DOWN. On an UP link its first byte notes the
count as the start of its transfer, unless one is under way; its end closes the transfer, and a frame with a
link tag above 15, a body length above 512 or a body cut short is answered BAD_FRAME at once; a well-formed one
is answered FULL when the queue holds 4 requests and is appended to the queue otherwise. (That a frame begins
and ends by this command is the model's, log entry 13.) -/
def Obligations.FrameArrivalJudged : Prop :=
  ∀ (a : Agent) (f : Frame) (s : State),
    ((s.link a).up = false → ∀ x, exec (.frameArrival a x) s = .next s) ∧
    ((s.link a).up = true → ∃ t, exec (.frameArrival a .begins) s = .next t ∧ Only [.agents] s t ∧
      t.link a = { s.link a with transfer := some (match (s.link a).transfer with
        | none => s.localCount
        | some c => c) } ∧
      ∀ b, b ≠ a → t.link b = s.link b) ∧
    ((s.link a).up = true → (15 < f.linkTag ∨ 512 < f.length ∨ f.body.length < f.length) →
      ∃ t, exec (.frameArrival a (.ends f)) s = .next t ∧ Only [.agents, .sent] s t ∧
        t.link a = { s.link a with transfer := none } ∧ (∀ b, b ≠ a → t.link b = s.link b) ∧
        t.sent = s.sent ++ [.reply a f.linkTag .badFrame []]) ∧
    ((s.link a).up = true → f.linkTag ≤ 15 → f.length ≤ 512 → f.length ≤ f.body.length →
      4 ≤ (s.link a).queue.length →
      ∃ t, exec (.frameArrival a (.ends f)) s = .next t ∧ Only [.agents, .sent] s t ∧
        t.link a = { s.link a with transfer := none } ∧ (∀ b, b ≠ a → t.link b = s.link b) ∧
        t.sent = s.sent ++ [.reply a f.linkTag .full []]) ∧
    ((s.link a).up = true → f.linkTag ≤ 15 → f.length ≤ 512 → f.length ≤ f.body.length →
      (s.link a).queue.length < 4 →
      ∃ t, exec (.frameArrival a (.ends f)) s = .next t ∧ Only [.agents] s t ∧
        t.link a = { s.link a with
          transfer := none
          queue := (s.link a).queue ++ [⟨f.linkTag, f.code, f.body.take f.length⟩] } ∧
        ∀ b, b ≠ a → t.link b = s.link b)

/-- The checks at the head of a link queue, in their order: UNKNOWN_REQUEST for a code that names no request,
NOT_PERMITTED where the table forbids the request (or the panel agent's STEP PATH names path 1), DISABLED for
every request but HELLO, NOT_LEAD for a lead-only request from another agent; the refusal changes nothing but
that the request is answered (R184, checks 1 to 4). A command whose request does not stand at the head, or
stands there as a GRANT that waits for its VERIFY, leaves the state unchanged (log entry 1). That NOT_PERMITTED
for the panel agent goes by the first byte of a body of any length is the model's reading (log entry 26). -/
def Obligations.HeadChecks : Prop :=
  (∀ (s : State) (a : Agent) (r : Request) (rest : List Request),
    (s.link a).queue = r :: rest → (s.link a).waiting = false → requestOf r.code = none →
      exec (.unknownRequest a) s = .next (answeredState s a r.tag rest .unknownRequest [])) ∧
  (∀ (s : State) (a : Agent) (q : Req) (tag : Nat) (body : List Byte) (rest : List Request),
    AtHead s a q tag body rest →
      ((permission q a = .no ∨ (a = .panel ∧ q = .stepPath ∧ body.head? = some 1)) →
        exec (q.command a) s = .next (answeredState s a tag rest .notPermitted [])) ∧
      (permission q a ≠ .no → ¬(a = .panel ∧ q = .stepPath ∧ body.head? = some 1) →
        (s.link a).disabled = true → q ≠ .hello →
        exec (q.command a) s = .next (answeredState s a tag rest .disabled [])) ∧
      ((s.link a).disabled = false → permission q a = .lead → s.lead ≠ some a →
        exec (q.command a) s = .next (answeredState s a tag rest .notLead []))) ∧
  (∀ (s : State) (a : Agent) (q : Req), (s.head a).all (fun r => r.code != q.code) = true →
    exec (q.command a) s = .next s)

/-- A link reset: a held reset line, and a transfer that is not completed 50 ms after its start, act on an UP link,
which is left DOWN and UP in turn; the queue is dropped and the ready flag cleared, and a transfer under way is
dropped too, by a held line as well (log entry 13: the model's choice); the pending set and the disabled flag are
kept; for the network agent the report batch is closed and the staging lineup discarded; the lead falls to the
lowest-numbered other eligible agent when the agent was the lead, and stands otherwise; the other links keep what they
hold (R182, R187, R116, R32, R189). Without a transfer, or before its 50 ms, the timeout does nothing (log entry 1).
The release of a reset line makes the link UP (R186). -/
def Obligations.LinkResets : Prop :=
  (∀ (s : State) (a : Agent) (c : Instr) (up : Bool), (s.link a).up = true →
    (c = .agentResetHeld a ∧ up = false ∨
      c = .frameTimeout a ∧ up = true ∧ ∃ b, (s.link a).transfer = some b ∧ b + 50 ≤ s.localCount) →
    ∃ t, exec c s = .next t ∧
      (t.link a).up = up ∧ (t.link a).queue = [] ∧ (t.link a).waiting = false ∧
      (t.link a).ready = false ∧ (t.link a).transfer = none ∧
      (t.link a).disabled = (s.link a).disabled ∧
      (∀ k ∈ (s.link a).notices, k ∈ (t.link a).notices) ∧
      (∀ b, b ≠ a → linkCore (t.link b) = linkCore (s.link b)) ∧
      t.lead = (if s.lead = some a then allAgents.find? fun b => b != a && eligible s b else s.lead) ∧
      (a = .network → t.staging = none ∧ t.access.batchOpen = false ∧
        ∀ r ∈ t.access.purchases, r.inBatch = false) ∧
      (a ≠ .network → t.staging = s.staging ∧ t.access.batchOpen = s.access.batchOpen) ∧
      t.guide = s.guide ∧ t.noticeMap = s.noticeMap ∧ clockOf t.time = clockOf s.time) ∧
  (∀ (s : State) (a : Agent), (s.link a).up = false →
    exec (.agentResetHeld a) s = .next s ∧ exec (.frameTimeout a) s = .next s) ∧
  (∀ (s : State) (a : Agent), (∀ b, (s.link a).transfer = some b → s.localCount < b + 50) →
    exec (.frameTimeout a) s = .next s) ∧
  (∀ (s : State) (a : Agent), ∃ t, exec (.agentResetReleased a) s = .next t ∧
    Only [.agents] s t ∧ t.link a = { s.link a with up := true } ∧
    ∀ b, b ≠ a → t.link b = s.link b)

/-- HELLO gives the ready flag the value of its self-check flag; with flag 1 an election is held when no lead
sits, with flag 0 when the agent is the lead; the reply carries the agent's number, its ready and disabled flags
and the lead as they stand after it; another body is refused BAD_FIELD (R188). RESIGN leaves the lead to the
lowest-numbered eligible agent other than the resigning one, or to none (R188, R189). -/
def Obligations.HelloAndResign : Prop :=
  (∀ (s : State) (a : Agent) (tag : Nat) (rest : List Request) (flag : Bool),
    Taken s a .hello tag [if flag then 1 else 0] rest →
    ∃ t, exec (.hello a) s = .next t ∧ Only [.agents, .lead, .leadNotices, .sent] s t ∧
      (t.link a).ready = flag ∧ (t.link a).disabled = (s.link a).disabled ∧
      (∀ b, b ≠ a → linkCore (t.link b) = linkCore (s.link b)) ∧
      t.lead =
        (if s.lead = (if flag then none else some a) then
          electee (s.setLink a { s.link a with ready := flag }) none
        else s.lead) ∧
      t.sent = s.sent ++ [.reply a tag .ok
        (u8 (agentNumber a) ++ flagByte flag ++ flagByte (s.link a).disabled ++
          optBytes 1 (t.lead.map agentNumber))]) ∧
  (∀ (s : State) (a : Agent) (tag : Nat) (body : List Byte) (rest : List Request),
    Taken s a .hello tag body rest → body ≠ [0] → body ≠ [1] →
    exec (.hello a) s = .next (answeredState s a tag rest .badField [])) ∧
  (∀ (s : State) (a : Agent) (tag : Nat) (rest : List Request), Taken s a .resign tag [] rest →
    ∃ t, exec (.resign a) s = .next t ∧ Only [.agents, .lead, .leadNotices, .sent] s t ∧
      (∀ b, b ≠ a → linkCore (t.link b) = linkCore (s.link b)) ∧
      t.lead = electee s (some a) ∧
      t.sent = s.sent ++ [.reply a tag .ok (optBytes 1 (t.lead.map agentNumber))])

/-- DISABLE sets the named agent's disabled flag and empties its pending set, ENABLE clears the flag; either marks
the settings of the image dirty; a request that finds the flag as asked changes nothing but that it is answered;
the requesting agent itself and a number out of 1..3 are refused
BAD_FIELD (R190). Both are answered OK. -/
def Obligations.DisableEnable : Prop :=
  (∀ (s : State) (a b : Agent) (tag : Nat) (body : List Byte) (rest : List Request),
    Taken s a .disable tag body rest → fields [1] body = some [agentNumber b] → b ≠ a →
    ∃ t, exec (.disable a) s = .next t ∧ Only [.agents, .store, .sent] s t ∧
      Answers s t a tag rest .ok [] ∧
      t.link b = (if (s.link b).disabled then s.link b
        else { s.link b with disabled := true, notices := [] }) ∧
      ((s.link b).disabled = true → t = answeredState s a tag rest .ok []) ∧
      ((s.link b).disabled = false → s.power.state ≠ .quiescing → .settings ∈ t.store.dirty) ∧
      ∀ d, d ≠ a → d ≠ b → t.link d = s.link d) ∧
  (∀ (s : State) (a b : Agent) (tag : Nat) (body : List Byte) (rest : List Request),
    Taken s a .enable tag body rest → fields [1] body = some [agentNumber b] → b ≠ a →
    ∃ t, exec (.enable a) s = .next t ∧ Only [.agents, .store, .sent] s t ∧
      Answers s t a tag rest .ok [] ∧ t.link b = { s.link b with disabled := false } ∧
      ((s.link b).disabled = false → t = answeredState s a tag rest .ok []) ∧
      ((s.link b).disabled = true → s.power.state ≠ .quiescing → .settings ∈ t.store.dirty) ∧
      ∀ d, d ≠ a → d ≠ b → t.link d = s.link d) ∧
  (∀ (s : State) (a : Agent) (q : Req) (n tag : Nat) (body : List Byte) (rest : List Request),
    (q = .disable ∨ q = .enable) → Taken s a q tag body rest → fields [1] body = some [n] →
    (n = 0 ∨ 3 < n ∨ n = agentNumber a) →
    exec (q.command a) s = .next (answeredState s a tag rest .badField []))

/-- NOTICE MAP gives one class a new target, and a class pending for the old target moves to the new one's set,
or is dropped when the new target is a disabled agent; with the target held already nothing changes; POWER is
refused BAD_FIELD (R192). READ NOTICES returns the reader's classes, with those of the LEAD set when it is the
lead, and empties both sets, so that its attention line is inactive (R192).

Raising a notice class marks it pending by the notice map: for an agent that is not disabled in its own set,
for LEAD in the LEAD pending set, and POWER for every agent whose link is UP and which is not disabled; no other
class and no other set changes. The attention line of an agent follows its sets (R191). -/
def Obligations.NoticesMovedAndRead : Prop :=
  (∀ (s : State) (a : Agent) (c : NoticeClass) (x : Target) (tag : Nat) (body : List Byte)
      (rest : List Request),
    Taken s a .noticeMap tag body rest → fields [1, 1] body = some [c.code, x.code] →
    c ≠ .power → x ≠ .everyAgent →
    ∃ t, exec (.noticeMap a) s = .next t ∧
      Only [.agents, .leadNotices, .noticeMap, .store, .sent] s t ∧ Answers s t a tag rest .ok [] ∧
      t.targetOf c = x ∧ (∀ d, d ≠ c → t.targetOf d = s.targetOf d) ∧
      (s.targetOf c = x → t = answeredState s a tag rest .ok []) ∧
      (s.targetOf c ≠ x →
        (pendingAt c s (s.targetOf c) = true → pendingAt c t (s.targetOf c) = false) ∧
        (pendingAt c t x = true ↔ pendingAt c s x = true ∨
          (pendingAt c s (s.targetOf c) = true ∧ ∀ b, x = .agent b → (s.link b).disabled = false)))) ∧
  (∀ (s : State) (a : Agent) (y tag : Nat) (body : List Byte) (rest : List Request),
    Taken s a .noticeMap tag body rest → fields [1, 1] body = some [11, y] →
    exec (.noticeMap a) s = .next (answeredState s a tag rest .badField [])) ∧
  (∀ (s : State) (a : Agent) (tag : Nat) (rest : List Request), Taken s a .readNotices tag [] rest →
    ∃ t, exec (.readNotices a) s = .next t ∧ Only [.agents, .leadNotices, .sent] s t ∧
      t.link a = { s.link a with queue := rest, waiting := false, notices := [] } ∧
      (∀ b, b ≠ a → t.link b = s.link b) ∧
      t.leadNotices = (if s.lead = some a then [] else s.leadNotices) ∧
      t.sent = s.sent ++ [.reply a tag .ok (classSetBytes (readableNotices s a))] ∧
      (∀ k, k ∈ readableNotices s a ↔ k ∈ (s.link a).notices ∨ (s.lead = some a ∧ k ∈ s.leadNotices)) ∧
      attention t a = false) ∧
  (∀ (c : NoticeClass) (s : State), Only [.agents, .leadNotices] s (raise c s) ∧
    (∀ a, linkCore ((raise c s).link a) = linkCore (s.link a)) ∧
    (∀ d, d ≠ c → (∀ a, d ∈ ((raise c s).link a).notices ↔ d ∈ (s.link a).notices) ∧
      (d ∈ (raise c s).leadNotices ↔ d ∈ s.leadNotices)) ∧
    (∀ a, c ∈ ((raise c s).link a).notices ↔ c ∈ (s.link a).notices ∨
      (c = .power ∧ (s.link a).up = true ∧ (s.link a).disabled = false) ∨
      (c ≠ .power ∧ s.targetOf c = .agent a ∧ (s.link a).disabled = false)) ∧
    (c ∈ (raise c s).leadNotices ↔ c ∈ s.leadNotices ∨ (c ≠ .power ∧ s.targetOf c = .lead))) ∧
  (∀ (s : State) (a : Agent), attention s a = true ↔ (s.link a).up = true ∧
    ((s.link a).notices ≠ [] ∨ (s.lead = some a ∧ s.leadNotices ≠ [])))

/-- The reading requests change nothing but that they are answered, BAD_FIELD for a body of another length where
the request has an empty body, and each reports what its rule lists, as it stands at the count of taking: TIME
READ (R20), LINEUP READ (R37), GUIDE READ (R52), INPUT READ (R69), PATH READ (R94), ENTITLEMENT READ (R117), CARD
STATUS (R131), FAULT READ (R133), PARENTAL STATUS (R148), JOB LIST (R160), POWER STATUS (R181) and LINK STATUS
(R192). The layouts of R185 where they leave a choice, and the cut of a reply at 512 bytes, are the model's (log
entry 10), and so are the remaining minutes and the partial in PARENTAL STATUS (log entries 32 and 33). -/
def Obligations.ReadsOnlyReply : Prop :=
  (∀ (q : Req) (s : State) (a : Agent) (tag : Nat) (body : List Byte) (rest : List Request),
    q ∈ [Req.linkStatus, .timeRead, .inputRead, .cardStatus, .faultRead, .parentalStatus,
      .powerStatus] → Taken s a q tag body rest → body ≠ [] →
    exec (q.command a) s = .next (answeredState s a tag rest .badField [])) ∧
  (∀ (s : State) (a : Agent) (tag : Nat) (rest : List Request), Taken s a .timeRead tag [] rest →
    let c := s.time
    let known := decide (c.state ≠ .unset)
    exec (.timeRead a) s = .next (answeredState s a tag rest .ok
      (u8 c.state.code ++ u64 s.localCount ++ u64 (if known then s.netMs else 0) ++
        s64 (if known then ((s.netSec : Int) + 60 * c.zone) / 86400 else 0) ++
        u16 (if known then (((s.netSec : Int) + 60 * c.zone) % 86400 / 60).toNat else 0) ++
        s64 c.zone ++ u8 c.source.code ++ optBytes 1 (c.inBandInput.map (·.val)) ++ u32 c.rate ++
        s64 c.slew ++ u64 ((c.slewEnd.map (· - s.localCount)).getD 0) ++
        optBytes 8 (c.prevMark.map (s.localCount - ·.takenAt))))) ∧
  (∀ (s : State) (a : Agent) (kind key n tag : Nat) (body : List Byte) (rest : List Request),
    Taken s a .lineupRead tag body rest → fields [1, 2, 1] body = some [kind, key, n] →
    1 ≤ n → n ≤ 16 → (kind = 1 ∧ 1 ≤ key ∧ key ≤ 9999 ∨ kind = 2 ∧ 1 ≤ key ∧ key ≤ 255) →
    let found : List (List Byte) :=
      if kind = 1 then (s.lineup.services.filter fun v => decide (key ≤ v.channel)).map Service.bytes
      else (s.lineup.carriers.filter fun c => decide (key ≤ c.id)).map Carrier.bytes
    ∃ k, k ≤ n ∧ k ≤ found.length ∧
      (k = n ∨ k = found.length ∨ 496 < (found.take (k + 1)).flatten.length) ∧
      exec (.lineupRead a) s = .next (answeredState s a tag rest .ok
        (u8 k ++ (found.take k).flatten ++ u16 s.lineup.version ++ u8 s.lineup.carriers.length ++
          u16 s.lineup.services.length ++
          (match s.staging with
            | none => u8 1 ++ u16 0 ++ u8 0 ++ u16 0
            | some l => u8 2 ++ u16 l.version ++ u8 l.carriers.length ++ u16 l.services.length) ++
          optBytes 2 (s.power.held.map (·.version)) ++ flagByte (decide (k < found.length))))) ∧
  (∀ (s : State) (a : Agent) (sid start n tag : Nat) (body : List Byte) (rest : List Request),
    Taken s a .guideRead tag body rest → fields [2, 4, 1] body = some [sid, start, n] →
    1 ≤ sid → 1 ≤ n → n ≤ 16 →
    let l := s.guide.pool.filter fun e => e.service == sid
    let found := l.filter fun e => decide (start < e.start + e.duration)
    let one (e : GuideEvent) : List Byte :=
      u16 e.id ++ u32 e.start ++ u32 e.duration ++ optBytes 1 e.rating ++
        optBytes 1 (match e.rating with
          | some r => some r
          | none => (s.lineup.service sid).map (·.rating)) ++
        u16 e.price ++ u32 e.title.toNat ++
        flagByte (decide (s.time.state ≠ .unset ∧ e.start ≤ s.netSec ∧ s.netSec < e.start + e.duration))
    exec (.guideRead a) s = .next (answeredState s a tag rest .ok
      (u8 (found.take n).length ++ (found.take n).flatMap one ++ u16 l.length ++
        u16 s.guide.pool.length ++ flagByte (s.lineup.service sid).isSome ++
        flagByte (decide (n < found.length))))) ∧
  (∀ (s : State) (a : Agent) (tag : Nat) (rest : List Request), Taken s a .inputRead tag [] rest →
    let one (i : InputNo) : List Byte :=
      let x := s.input i
      u8 x.state.code ++ optBytes 1 x.carrier ++ u8 x.holders.length ++
        x.holders.flatMap (fun p => u8 p.val) ++ u8 x.sequence ++ u64 (s.localCount - x.tuneStart) ++
        optBytes 8 (x.tuneTimeout.map (· - s.localCount)) ++ optBytes 8 (x.retune.map (· - s.localCount))
    exec (.inputRead a) s = .next (answeredState s a tag rest .ok
      (one 0 ++ one 1 ++ one 2 ++ one 3 ++ u8 s.claimQueue.length ++
        s.claimQueue.flatMap fun p => u8 p.val))) ∧
  (∀ (s : State) (a : Agent) (n tag : Nat) (body : List Byte) (rest : List Request),
    Taken s a .pathRead tag body rest → fields [1] body = some [n] →
    let slot (k : Slot) : List Byte :=
      u8 (if k.loaded.isSome then 3 else if k.pending.isSome then 2 else 1) ++
        optBytes 1 (k.loaded.map (·.version)) ++ optBytes 1 k.pending
    let one (p : PathNo) : List Byte :=
      let x := s.path p
      u8 (if p.val = 0 then 1 else if p.val = 1 then 2 else 3) ++
        u8 x.state.code ++ optBytes 1 x.state.reasonCode ++
        (match x.snapshot with
          | none => u8 0 ++ u16 0 ++ u16 0
          | some v => u8 1 ++ u16 v.id ++ u16 v.channel) ++
        optBytes 2 x.lastService ++ optBytes 1 (x.heldInput.map (·.val)) ++
        optBytes 1 ((s.claimQueue.idxOf? p).map (· + 1)) ++
        (match x.currentEvent with
          | none => u8 0 ++ u16 0 ++ u32 0 ++ u32 0
          | some c => u8 1 ++ u16 c.id ++ u32 c.start ++ u32 c.stop) ++
        optBytes 8 (x.boundary.map (·.expiry - s.localCount)) ++ slot x.slotA ++ slot x.slotB ++
        (match x.unlock with
          | none => u8 0 ++ u16 0 ++ u8 0 ++ u16 0
          | some u => u8 1 ++ u16 u.service ++ optBytes 2 u.event) ++
        optBytes 1 x.job ++ u64 (s.localCount - x.lastChange)
    (∀ p : PathNo, n = p.val →
      exec (.pathRead a) s = .next (answeredState s a tag rest .ok (one p))) ∧
    (n = 255 → exec (.pathRead a) s = .next (answeredState s a tag rest .ok
      (one 0 ++ one 1 ++ one 2 ++ one 3 ++ one 4 ++ one 5))) ∧
    (6 ≤ n → n ≠ 255 → exec (.pathRead a) s = .next (answeredState s a tag rest .badField []))) ∧
  (∀ (s : State) (a : Agent) (part start n tag : Nat) (body : List Byte) (rest : List Request),
    Taken s a .entitlementRead tag body rest → fields [1, 1, 1] body = some [part, start, n] →
    (part = 1 ∨ part = 2) → start ≤ 63 → 1 ≤ n → n ≤ 16 →
    let u := s.access
    let held := u.purchases.countP fun r => !r.reported && !r.granted
    let found : List (List Byte) :=
      if part = 1 then (u.tiers.drop start).map fun r => u8 r.tier ++ optBytes 4 r.expiry
      else (u.purchases.drop start).map fun r =>
        u16 r.service ++ u16 r.event ++ u32 r.start ++ u32 r.stop ++ u16 r.price ++ u32 r.time ++
          flagByte r.granted ++ flagByte r.reported ++ flagByte r.inBatch
    exec (.entitlementRead a) s = .next (answeredState s a tag rest .ok
      (u8 (found.take n).length ++ (found.take n).flatten ++ u32 u.balance ++ u8 u.tiers.length ++
        u8 u.purchases.length ++ u8 held ++
        (if u.batchOpen then u8 2 ++ u8 u.batchNumber ++ u8 (u.purchases.countP (·.inBatch))
          else u8 1 ++ u8 0 ++ u8 0) ++
        u8 s.time.state.code ++ flagByte (decide (n < found.length))))) ∧
  (∀ (s : State) (a : Agent) (tag : Nat) (rest : List Request), Taken s a .cardStatus tag [] rest →
    let c := s.card
    let origin (x : Transaction) : List Byte := match x with
      | .verify l k _ _ => u8 1 ++ u8 (agentNumber l) ++ u8 k
      | .unwrap p ph _ _ _ => u8 2 ++ u8 p.val ++ u8 (Phase.code ph)
    let version (x : Transaction) : Option Nat := match x with
      | .verify _ _ _ _ => none
      | .unwrap _ _ v _ _ => some v
    let one (k : Fin 4) : List Byte :=
      match c.entry k.val, c.resting.get k with
      | some e, _ => u8 1 ++ origin e.tx ++ optBytes 1 (version e.tx) ++ flagByte e.stale ++ u8 e.busy ++
          u64 (s.localCount - e.sendCount)
      | none, some r => u8 3 ++ u64 (r - s.localCount)
      | none, none => u8 2
    exec (.cardStatus a) s = .next (answeredState s a tag rest .ok
      (u8 c.state.code ++ u8 c.failures ++
        optBytes 8 (match c.resetExpiry, c.wakeExpiry with
          | some e, _ => some (e - s.localCount)
          | none, some e => some (e - s.localCount)
          | none, none => none) ++
        one 0 ++ one 1 ++ one 2 ++ one 3 ++ u8 c.waiting.length ++ c.waiting.flatMap origin ++
        flagByte c.capture.isSome))) ∧
  (∀ (s : State) (a : Agent) (tag : Nat) (rest : List Request), Taken s a .faultRead tag [] rest →
    exec (.faultRead a) s = .next (answeredState s a tag rest .ok
      (match s.card.capture with
        | none => u8 1
        | some c => u8 2 ++ u8 c.fault.code ++ optBytes 1 c.tag ++
          (match c.concern with
            | none => u8 0 ++ u8 0 ++ u8 0 ++ u16 0 ++ u8 0 ++ u8 0
            | some (.verify l k, stale) =>
              u8 1 ++ u8 1 ++ u8 1 ++ (u8 (agentNumber l) ++ u8 k) ++ u8 1 ++ flagByte stale
            | some (.unwrap p ph, stale) =>
              u8 1 ++ u8 2 ++ u8 1 ++ (u8 p.val ++ u8 (Phase.code ph)) ++ u8 1 ++ flagByte stale) ++
          u64 c.count ++ flagByte c.lost))) ∧
  (∀ (s : State) (a : Agent) (tag : Nat) (rest : List Request), Taken s a .parentalStatus tag [] rest →
    let u := s.parental
    let m := u.meters.get u.active
    let sum := u.activeProfile.allowance + m.extension
    let profile (k : Fin 4) : List Byte :=
      let p := u.profiles.get k
      u8 p.ceiling ++ u8 p.blocked.length ++ p.blocked.flatMap u16 ++ flagByte p.skip ++
        flagByte p.purchasePin ++ u16 p.allowance ++ u16 p.winStart ++ u16 p.winStop
    let meter (n : ProfileNo) : List Byte :=
      let x := u.meters.get n
      u16 x.used ++ u16 (match u.run with
        | none => x.partialMs
        | some l => if u.active = n ∧ x.used < 1440 then x.partialMs + (s.localCount - l)
          else x.partialMs) ++ u16 x.extension
    let scope (p : PathNo) : List Byte := match (s.path p).unlock with
      | none => u8 0 ++ u16 0 ++ u8 0 ++ u16 0
      | some x => u8 1 ++ u16 x.service ++ optBytes 2 x.event
    exec (.parentalStatus a) s = .next (answeredState s a tag rest .ok
      (u8 u.active.val ++ u8 u.startProfile.val ++ (profile 0 ++ profile 1 ++ profile 2 ++ profile 3) ++
        (meter 0 ++ meter 1 ++ meter 2 ++ meter 3 ++ meter 4) ++
        optBytes 2 (if sum < 1440 then some (sum - m.used) else none) ++
        u8 (if u.run = none then 1 else 2) ++ u8 u.attempts ++
        optBytes 8 (u.lockout.map (· - s.localCount)) ++ u8 (judgedSide s).code ++
        (match u.lastRollover with
          | none => u8 0 ++ s64 0
          | some d => u8 1 ++ s64 d) ++ (scope 0 ++ scope 1)))) ∧
  (∀ (s : State) (a : Agent) (start n tag : Nat) (body : List Byte) (rest : List Request),
    Taken s a .jobList tag body rest → fields [1, 1] body = some [start, n] →
    start ≤ 31 → 1 ≤ n → n ≤ 16 →
    let one (j : Job) : List Byte :=
      u8 j.id ++ u16 j.service ++
        (match j.trigger with
          | .time => u8 1 ++ u16 0
          | .event e => u8 2 ++ u16 e) ++
        u32 j.start ++ u32 j.stop ++ u16 j.padBefore ++ u16 j.padAfter ++ flagByte j.buy ++
        u8 j.state.code ++ optBytes 1 j.state.reasonCode ++ optBytes 4 j.actualStart ++
        u16 j.interruptions ++ s64 j.effStart ++ s64 j.effStop ++ optBytes 1 (j.path.map (·.val)) ++
        flagByte j.startDue ++ optBytes 8 (j.graceExpiry.map (· - s.localCount))
    let found := (s.jobs.list.drop start).map one
    ∃ k, k ≤ n ∧ k ≤ found.length ∧
      (k = n ∨ k = found.length ∨ 508 < (found.take (k + 1)).flatten.length) ∧
      exec (.jobList a) s = .next (answeredState s a tag rest .ok
        (u8 k ++ (found.take k).flatten ++ u8 s.jobs.list.length ++ u8 s.time.state.code ++
          flagByte (decide (k < found.length))))) ∧
  (∀ (s : State) (a : Agent) (tag : Nat) (rest : List Request), Taken s a .powerStatus tag [] rest →
    let x := s.store
    exec (.powerStatus a) s = .next (answeredState s a tag rest .ok
      (u8 s.power.state.code ++ optBytes 2 (s.power.held.map (·.version)) ++
        flagByte (decide (verifyCount s = 0)) ++ flagByte (decide (x.dirty = [] ∧ x.write = none)) ++
        flagByte (decide (s.staging = none)) ++ u8 (verifyCount s) ++
        flagByte (decide (s.staging ≠ none)) ++ u8 x.dirty.length ++
        x.dirty.flatMap (fun d => u8 d.code) ++ optBytes 8 (x.dirtySince.map (s.localCount - ·)) ++
        optBytes 8 (x.commitDelay.map (· - s.localCount)) ++
        (match x.write with
          | none => u8 1 ++ u64 0
          | some w => u8 2 ++ u64 (s.localCount - w.start)) ++
        u8 x.lastWrite.code ++ u8 (if x.loadGood then 1 else 2)))) ∧
  (∀ (s : State) (a : Agent) (tag : Nat) (rest : List Request), Taken s a .linkStatus tag [] rest →
    let one (b : Agent) : List Byte :=
      u8 (if (s.link b).up then 1 else 2) ++ flagByte (s.link b).ready ++ flagByte (s.link b).disabled ++
        u8 (s.link b).queue.length
    exec (.linkStatus a) s = .next (answeredState s a tag rest .ok
      (one .media ++ one .network ++ one .panel ++ optBytes 1 (s.lead.map agentNumber) ++
        [NoticeClass.path, .access, .parental, .purchase, .guide, .lineup, .job, .card, .fault, .time,
          .lead].flatMap (fun c => u8 (s.targetOf c).code) ++
        classSetBytes s.leadNotices)))

/-- Every step keeps these two: the lead is an agent whose link is UP, that is ready and that is not disabled
(R189); a link queue holds at most 4 requests and that of a DOWN link none (R182, R187). -/
def Obligations.LinksKept : Prop :=
  ∀ s t : State, LeadOk s → QueuesOk s → step s = .next t → LeadOk t ∧ QueuesOk t

/-! ## What every step keeps -/

/-- Right after reset every invariant holds. -/
def Obligations.InvariantsAtReset : Prop :=
  let r := State.reset
  LeadOk r ∧ QueuesOk r ∧ BalanceOk r ∧ ClockOk r ∧ AttemptsOk r ∧ WaitingOk r ∧ GuideOk r ∧ ViewsOk r ∧
    InBandOk r ∧ HoldersOk r ∧ TablesOk r ∧ MeterOk r ∧ StartDueOk r ∧ Settled r

/-- Every step keeps the rate in 64,881..66,191 and the zone in −720..840 (R2), the balance in 0..1,000,000
(R100), the attempt counter in 0..2 (R140) and the card's waiting queue at 8 or fewer (R118).

Every step keeps the tables within their sizes, tier records in ascending order of tier number, purchase
records and job ids different from each other, and at most one outstanding transaction for each card tag (R22,
R95, R96, R101, R122, R156). -/
def Obligations.RangesAndTablesKept : Prop :=
  (∀ s t : State, ClockOk s → BalanceOk s → AttemptsOk s → WaitingOk s → step s = .next t →
    ClockOk t ∧ BalanceOk t ∧ AttemptsOk t ∧ WaitingOk t) ∧
  (∀ s t : State, TablesOk s → step s = .next t → TablesOk t)

/-- Every step keeps the guide: events of one service neither overlap nor share an event id, and the pool holds
at most 4096 (R38, R39). -/
def Obligations.GuideKept : Prop :=
  ∀ s t : State, GuideOk s → step s = .next t → GuideOk t

/-- Every step keeps these: a path without a snapshot is IDLE, and outside ACTIVE no view path has a service
(R70, R170).

Every step keeps the in-band input the lowest-numbered LOCKED input, or none (R7). -/
def Obligations.ViewsAndInBandKept : Prop :=
  (∀ s t : State, ViewsOk s → step s = .next t → ViewsOk t) ∧
  (∀ s t : State, InBandOk s → step s = .next t → InBandOk t)

/-- Every step keeps what inputs and paths hold of each other: holders and held inputs agree, a FREE input has
no holder and no carrier, a record path with a service always holds an input and is never BLOCKED nor
STALLED(INPUT_TAKEN), and the claim queue holds just the view paths with a service and without an input (R62,
R64, R65). -/
def Obligations.HoldersKept : Prop :=
  ∀ s t : State, HoldersOk s → step s = .next t → HoldersOk t

/-- Every step keeps the meter running exactly while a view path is PRESENTING, and no view path PRESENTING while
the active profile's used minutes stand at or above an allowance plus extension below 1440 (R150), and leaves no
gate named and not evaluated (R86). So from states in which a path without a service is IDLE and no gate is
named. -/
def Obligations.MeterKept : Prop :=
  (∀ s t : State, ViewsOk s → MeterOk s → s.gatesDue = [] → step s = .next t →
    MeterOk t ∧ t.gatesDue = []) ∧
  (∀ s t : State, s.gatesDue = [] → step s = .next t → t.gatesDue = [])

/-- Every step leaves the part as the end of an action leaves it, with nothing that the end of an action would
still do: no gate is named (R86), the claim queue is empty or no input is FREE (R66), no start due job finds an
IDLE record path (R161), no transaction can be sent (R123), the card is not to be idled (R139), SERVICE follows
the card (R174) and QUIESCING does not end (R172); and a start due job stays SCHEDULED, for a service the lineup
holds. -/
def Obligations.SettledKept : Prop :=
  ∀ s t : State, TablesOk s → StartDueOk s → Settled s → step s = .next t → Settled t ∧ StartDueOk t

/-! ## The end of an action -/

/-- At the end of every action either the claim queue is empty or no input is FREE, and CLAIM_QUEUE_SERVICE
leaves the same (R66). The path at the head of the queue claims the carrier of its snapshot: it joins the input
that has that carrier, and otherwise the lowest-numbered FREE input is tuned for it alone (R61, R54); so for a
queue of one path, in ACTIVE, with no start due job.

The end of an action changes nothing in a settled state (R86, R66, R161, R123, R139, R174, R172). -/
def Obligations.ActionEnds : Prop :=
  (∀ s : State, (settle s).claimQueue = [] ∨ lowestFree (settle s) = none) ∧
  (∀ s : State, ∃ t, exec .claimQueueService s = .next t ∧
    (t.claimQueue = [] ∨ lowestFree t = none)) ∧
  (∀ (s : State) (p : PathNo) (v : Service) (f : InputNo),
    s.claimQueue = [p] → NoStartDue s → s.power.state = .active → (s.path p).snapshot = some v →
    lowestFree s = some f →
    ∃ t, exec .claimQueueService s = .next t ∧ t.claimQueue = [] ∧
      match inputWith s v.carrier with
      | some i =>
        (t.path p).heldInput = some i ∧ p ∈ (t.input i).holders ∧
          (t.input i).state = (s.input i).state ∧ (t.input i).sequence = (s.input i).sequence
      | none =>
        (t.path p).heldInput = some f ∧
          t.input f = ⟨.tuning, some v.carrier, [p], ((s.input f).sequence + 1) % 256, s.localCount,
            some (s.localCount + 1500), none⟩ ∧
          ∀ i, i ≠ f → t.input i = s.input i) ∧
  (∀ s : State, Settled s → settle s = s)

/-! ## Network time -/

/-- An out-of-band mark (R8 to R13, R16). With IN_BAND selected it is answered IGNORED and nothing changes. In
UNSET it anchors the clock, outcome FIRST. In SET and HOLDOVER its phase error is e = N − T(L): below −600,000
it is answered REJECTED with e and the Time Base is as it was; otherwise the rate is learned, the phase is
corrected, the mark becomes prev mark, the holdover expiry is 1,800,000 ahead and the state is SET, and the
answer carries the outcome STEP, ON_TIME or SLEW with e (an e of 2^63 or more modulo 2^64: log entry 10), whether
it taught, and the rate. -/
def Obligations.TimeMarkTaken : Prop :=
  ∀ (s : State) (a : Agent) (n tag : Nat) (body : List Byte) (rest : List Request),
    Taken s a .timeMark tag body rest → fields [8] body = some [n] →
    let l := s.localCount
    let m : TimeMark := ⟨.outOfBand, none, n⟩
    let prev : PrevMark := ⟨.outOfBand, none, n, l⟩
    let e : Int := (n : Int) - (s.netMs : Int)
    (s.time.source = .inBand →
      exec (.timeMark a) s = .next (answeredState s a tag rest .ignored [])) ∧
    (s.time.source = .outOfBand → s.time.state = .unset →
      ∃ t, exec (.timeMark a) s = .next t ∧
        clockOf t.time = clockOf { s.time with
          baseT := n, baseL := l, state := .set, prevMark := some prev, holdover := some (l + 1800000) } ∧
        Answers s t a tag rest .ok (u8 1 ++ s64 0 ++ flagByte false ++ u32 s.time.rate)) ∧
    (s.time.source = .outOfBand → s.time.state ≠ .unset → e < -600000 →
      ∃ t, exec (.timeMark a) s = .next t ∧ clockOf t.time = clockOf s.time ∧
        Answers s t a tag rest .rejected (s64 e)) ∧
    (s.time.source = .outOfBand → s.time.state ≠ .unset → -600000 ≤ e →
      let k := correctPhase l n e (learnRate l m s.time)
      ∃ t, exec (.timeMark a) s = .next t ∧
        clockOf t.time = clockOf { k with
          prevMark := some prev, holdover := some (l + 1800000), state := .set } ∧
        Answers s t a tag rest .ok
          (u8 (if 2001 ≤ e then 2 else if e = 0 then 4 else 3) ++ s64 e ++
            flagByte (taughtRate s.time l m).isSome ++ u32 k.rate))

/-- Network time never decreases as the local count advances (R3); a re-anchor and the learning of a rate move
it by nothing at their count (R4, R11); the phase correction moves it to N when it steps, and by nothing when it
slews (R12); a slew of S runs for the least whole number of counts at which 655/65536 of it reach |S| (R14).

An expiry set on a moment of network time is the first count, from the present one on, at which network time
reaches the moment under the anchor, rate and slew in force (R5).

What rate an accepted mark teaches (R11): with a prev mark of the same source and carrier input whose count
lies 60,000..1,800,000 back, a quarter of the difference to r*, truncated towards zero, is added to the rate,
and the sum is held within 64,881..66,191; r* is the whole number with r* × D_L ≤ D_N × 65,536 <
(r* + 1) × D_L. Otherwise the Time Base is unchanged by the learning. -/
def Obligations.NetworkTimeRuns : Prop :=
  (∀ (t : TimeBase) (l m : Count), l ≤ m → netTimeAt t l ≤ netTimeAt t m) ∧
  (∀ (t : TimeBase) (l : Count), netTimeAt (reAnchorAt l t) l = netTimeAt t l ∧
    (reAnchorAt l t).baseL = l ∧ (reAnchorAt l t).rate = t.rate ∧ (reAnchorAt l t).slew = t.slew) ∧
  (∀ (t : TimeBase) (l : Count) (m : TimeMark), netTimeAt (learnRate l m t) l = netTimeAt t l) ∧
  (∀ (t : TimeBase) (l : Count) (n : NetMs) (e : Int),
    netTimeAt (correctPhase l n e t) l = (if 2001 ≤ e then n else netTimeAt t l) ∧
    (correctPhase l n e t).slew = (if 2001 ≤ e then 0 else e) ∧
    (correctPhase l n e t).slewEnd =
      (if 2001 ≤ e ∨ e = 0 then none else some (l + slewDuration e))) ∧
  (∀ e : Int, e ≠ 0 → Least (fun d => e.natAbs * 65536 ≤ d * 655) (slewDuration e)) ∧
  (∀ (s : State) (moment : Int), ClockOk s →
    Least (fun l => s.localCount ≤ l ∧ moment ≤ (netTimeAt s.time l : Int)) (s.expiryOf moment)) ∧
  (∀ (t : TimeBase) (l : Count) (m : TimeMark) (p : PrevMark) (r : Int),
    t.prevMark = some p → p.source = m.source → p.input = m.input →
    60000 ≤ l - p.takenAt → l - p.takenAt ≤ 1800000 →
    r * ((l - p.takenAt : Nat) : Int) ≤ ((m.n : Int) - (p.n : Int)) * 65536 →
    ((m.n : Int) - (p.n : Int)) * 65536 < (r + 1) * ((l - p.takenAt : Nat) : Int) →
    let new : Int := (t.rate : Int) + (r - (t.rate : Int)).tdiv 4
    ((learnRate l m t).rate : Int) = (if new < 64881 then 64881 else if 66191 < new then 66191 else new) ∧
      (learnRate l m t).baseL = l ∧ (learnRate l m t).baseT = netTimeAt t l) ∧
  (∀ (t : TimeBase) (l : Count) (m : TimeMark),
    (∀ p, t.prevMark = some p → p.source = m.source → p.input = m.input →
      l - p.takenAt < 60000 ∨ 1800000 < l - p.takenAt) →
    learnRate l m t = t)

/-- TIME SOURCE selects the source, clears prev mark when it differs, and changes nothing when it does not
(R17). TIME SET anchors the clock in UNSET, with prev mark absent and the local day of N as last rollover day,
and is refused TIME_HELD otherwise (R18, R153). ZONE SET holds the zone within −720..840, answering OK_CLAMPED
when it limited it (R19).

The end-of-slew expiry re-anchors under the slewing rate and ends the slew (R14); the holdover expiry makes
SET HOLDOVER, with the clock as it was (R15); neither does anything before its count (log entry 1). -/
def Obligations.TimeRequestsAndExpiries : Prop :=
  (∀ (s : State) (a : Agent) (x : Source) (tag : Nat) (body : List Byte) (rest : List Request),
    Taken s a .timeSource tag body rest → fields [1] body = some [x.code] →
    ∃ t, exec (.timeSource a) s = .next t ∧ Only [.time, .store, .sent, .agents] s t ∧
      Answers s t a tag rest .ok [] ∧
      t.time = (if s.time.source = x then s.time else { s.time with source := x, prevMark := none }) ∧
      (s.time.source = x → t = answeredState s a tag rest .ok [])) ∧
  (∀ (s : State) (a : Agent) (n tag : Nat) (body : List Byte) (rest : List Request),
    Taken s a .timeSource tag body rest → fields [1] body = some [n] → n ≠ 1 → n ≠ 2 →
    exec (.timeSource a) s = .next (answeredState s a tag rest .badField [])) ∧
  (∀ (s : State) (a : Agent) (n tag : Nat) (body : List Byte) (rest : List Request),
    Taken s a .timeSet tag body rest → fields [8] body = some [n] →
    (s.time.state = .unset → ∃ t, exec (.timeSet a) s = .next t ∧
      clockOf t.time = clockOf { s.time with
        baseT := n, baseL := s.localCount, state := .set, prevMark := none,
        holdover := some (s.localCount + 1800000) } ∧
      t.parental.lastRollover = some ((((n / 1000 : Nat) : Int) + 60 * s.time.zone) / 86400) ∧
      Answers s t a tag rest .ok []) ∧
    (s.time.state ≠ .unset →
      exec (.timeSet a) s = .next (answeredState s a tag rest .timeHeld []))) ∧
  (∀ (s : State) (a : Agent) (n tag : Nat) (body : List Byte) (rest : List Request),
    Taken s a .zoneSet tag body rest → fields [2] body = some [n] →
    let z : Int := if n < 32768 then n else (n : Int) - 65536
    ∃ t, exec (.zoneSet a) s = .next t ∧
      clockOf t.time = clockOf { s.time with
        zone := if z < -720 then -720 else if 840 < z then 840 else z } ∧
      Answers s t a tag rest (if z < -720 ∨ 840 < z then .okClamped else .ok) []) ∧
  (∀ s : State, s.reached s.time.slewEnd = true →
    ∃ t, exec .endOfSlewExpiry s = .next t ∧
      clockOf t.time = clockOf { s.time with
        baseT := s.netMs, baseL := s.localCount, slew := 0, slewEnd := none }) ∧
  (∀ s : State, s.reached s.time.slewEnd = false → exec .endOfSlewExpiry s = .next s) ∧
  (∀ s : State, s.reached s.time.holdover = true → s.time.state = .set →
    ∃ t, exec .holdoverExpiry s = .next t ∧ Only [.time, .agents, .leadNotices] s t ∧
      t.time = { s.time with state := .holdover, holdover := none } ∧
      pendingAt .time t (s.targetOf .time) = (match s.targetOf .time with
        | .agent a => !(s.link a).disabled || pendingAt .time s (.agent a)
        | .lead => true
        | .everyAgent => pendingAt .time s .everyAgent)) ∧
  (∀ s : State, s.reached s.time.holdover = false ∨ s.time.state ≠ .set →
    exec .holdoverExpiry s = .next s)

/-- What the announcements of the Time Base do to paths, tier and purchase records and jobs (R5, R92, R97, R102,
R167). RE-ANCHOR alone, at the end of a slew: every boundary, tier, end and start expiry that is held is set again for
the same moment under the new anchor, and nothing else of them changes (here while every moment lies ahead). TIME SET,
by a TIME SET taken in UNSET (here while no event is old enough for its sweep and no job is ACTIVE), and STEP, by an
out-of-band mark: every path with a service has the lookup of the new network second (an event of the same id with the
times the guide gives, log entry 36: the model's reading); tier records that have expired, and ended purchase records
that are reported or granted, are gone, and the others have their expiries; a SCHEDULED job whose effective end has
passed is MISSED, one whose start lies ahead has its start expiry (a start due one, whose start has been reached by
R161, is none of these), and one in its span starts, unless it cannot; at a STEP an ACTIVE job whose effective end has
passed is COMPLETE, and another has its end expiry. -/
def Obligations.TimeAnnounced : Prop :=
  (∀ s : State, s.reached s.time.slewEnd = true → s.timeKnown = true → ClockOk s → TablesOk s →
    Settled s → (∀ p b, (s.path p).boundary = some b → s.netSec < b.moment) →
    (∀ j ∈ s.jobs.list, (j.startExpiry ≠ none → (s.netSec : Int) < j.effStart) ∧
      (j.endExpiry ≠ none → (s.netSec : Int) < j.effStop)) →
    ∃ t, exec .endOfSlewExpiry s = .next t ∧ t.netMs = s.netMs ∧
      (∀ p, (t.path p).currentEvent = (s.path p).currentEvent ∧ (t.path p).unlock = (s.path p).unlock ∧
        (t.path p).snapshot = (s.path p).snapshot ∧ ((s.path p).snapshot ≠ none →
          (t.path p).boundary = (s.path p).boundary.map fun b => ⟨b.moment, t.expiryOfSec b.moment⟩)) ∧
      t.access = { s.access with
        tiers := s.access.tiers.map fun r => { r with timer := r.expiry.map fun e => t.expiryOfSec e }
        purchases := s.access.purchases.map fun r =>
          { r with timer := r.timer.map fun _ => t.expiryOfSec r.stop } } ∧
      t.jobs = { s.jobs with list := s.jobs.list.map fun j =>
        { j with startExpiry := j.startExpiry.map fun _ => t.expiryOfSec j.effStart
                 endExpiry := j.endExpiry.map fun _ => t.expiryOfSec j.effStop } }) ∧
  (∀ (s : State) (a : Agent) (n tag : Nat) (body : List Byte) (rest : List Request) (c : Instr),
    (c = .timeSet a ∧ Taken s a .timeSet tag body rest ∧ s.time.state = .unset ∧
        (∀ j ∈ s.jobs.list, j.state ≠ .active ∧ j.endExpiry = none) ∧
        (∀ e ∈ s.guide.pool, n / 1000 ≤ e.start + e.duration + 3600) ∨
      c = .timeMark a ∧ Taken s a .timeMark tag body rest ∧ s.time.state ≠ .unset ∧
        s.time.source = .outOfBand ∧ (s.netMs : Int) + 2001 ≤ (n : Int)) →
    fields [8] body = some [n] → ClockOk s → TablesOk s → HoldersOk s → Settled s → StartDueOk s →
    let sec := n / 1000
    ∃ t, exec c s = .next t ∧ t.netMs = n ∧
      (∀ p v, (t.path p).snapshot = some v →
        (t.path p).currentEvent =
          (s.guide.current v.id sec).map (fun e => ⟨e.id, e.start, e.start + e.duration⟩) ∧
        (t.path p).boundary = (s.guide.boundary v.id sec).map fun m => ⟨m, t.expiryOfSec m⟩) ∧
      t.access.tiers =
        (s.access.tiers.filter fun r => r.expiry.all fun e => decide (sec < e)).map
          (fun r => { r with timer := r.expiry.map fun e => t.expiryOfSec e }) ∧
      ((∀ j ∈ s.jobs.list, j.buy = false) → t.access.purchases =
        (s.access.purchases.filter fun r =>
          decide (sec < r.stop ∨ (r.reported = false ∧ r.granted = false))).map
          (fun r => { r with timer := if sec < r.stop then some (t.expiryOfSec r.stop) else none })) ∧
      (∀ j ∈ s.jobs.list, j.state = .scheduled →
        (j.effStop ≤ (sec : Int) → t.job j.id = some { j with
          state := .missed, path := none, startDue := false, startExpiry := none, endExpiry := none,
          graceExpiry := none }) ∧
        ((sec : Int) < j.effStop → (sec : Int) < j.effStart → j.startDue = false →
          ∃ k, t.job j.id = some k ∧ k.state = .scheduled ∧
            k.startExpiry = some (t.expiryOfSec j.effStart)) ∧
        ((sec : Int) < j.effStop → j.effStart ≤ (sec : Int) →
          ∃ k, t.job j.id = some k ∧ (k.state = .active ∨ (∃ r, k.state = .failed r) ∨
            (k.state = .scheduled ∧ k.startDue = true ∧ k.endExpiry = some (t.expiryOfSec j.effStop))))) ∧
      ∀ j ∈ s.jobs.list, j.state = .active →
        (j.effStop ≤ (sec : Int) → t.job j.id = some { j with
          state := .complete, path := none, startDue := false, startExpiry := none, endExpiry := none,
          graceExpiry := none }) ∧
        ((sec : Int) < j.effStop → ∃ k, t.job j.id = some k ∧ k.state = .active ∧ k.path = j.path ∧
          k.start = j.start ∧ k.stop = j.stop ∧ k.endExpiry = some (t.expiryOfSec j.effStop)))

/-! ## The lineup -/

/-- LINEUP BEGIN opens a staging lineup with the version of its body, empty, and reports whether one was discarded; in
QUIESCING it is refused ASLEEP (R26). LINEUP ADD is refused NO_STAGING in CLOSED, a body that does not fit the layout
as well (log entry 26: the model's reading); a record out of range is refused BAD_FIELD with its position and field
(log entry 11); records that would leave more than 96 carriers or 768 services are refused TABLE_FULL; otherwise every
record enters the staging lineup, in its order, and the reply carries both numbers (R27, R28). -/
def Obligations.LineupBeginsAndAdds : Prop :=
  (∀ (s : State) (a : Agent) (v tag : Nat) (body : List Byte) (rest : List Request),
    Taken s a .lineupBegin tag body rest → fields [2] body = some [v] →
    exec (.lineupBegin a) s = .next
      (if s.power.state = .quiescing then answeredState s a tag rest .asleep []
      else (answeredState s a tag rest .ok (flagByte s.staging.isSome)).setStaging
        (some ⟨v, [], []⟩))) ∧
  (∀ (s : State) (a : Agent) (tag : Nat) (body : List Byte) (rest : List Request),
    Taken s a .lineupAdd tag body rest → s.staging = none →
    exec (.lineupAdd a) s = .next (answeredState s a tag rest .noStaging [])) ∧
  (∀ (s : State) (a : Agent) (tag : Nat) (rs : List Byte) (rest : List Request) (l k : Lineup)
      (kind : Nat),
    Taken s a .lineupAdd tag (u8 kind ++ rs) rest → s.staging = some l →
    (kind = 1 ∧ (∃ cs, recordsOf takeCarrier rs = some (.ok cs) ∧ k = stageCarriers cs l) ∨
      kind = 2 ∧ (∃ vs, recordsOf takeService rs = some (.ok vs) ∧ k = stageServices vs l)) →
    exec (.lineupAdd a) s = .next
      (if 96 < k.carriers.length ∨ 768 < k.services.length then answeredState s a tag rest .tableFull []
      else (answeredState s a tag rest .ok (u8 k.carriers.length ++ u16 k.services.length)).setStaging
        (some k))) ∧
  (∀ (s : State) (a : Agent) (tag : Nat) (rs : List Byte) (rest : List Request) (l : Lineup)
      (kind n f : Nat),
    Taken s a .lineupAdd tag (u8 kind ++ rs) rest → s.staging = some l →
    (kind = 1 ∧ recordsOf takeCarrier rs = some (.error (n, f)) ∨
      kind = 2 ∧ recordsOf takeService rs = some (.error (n, f))) →
    exec (.lineupAdd a) s = .next (answeredState s a tag rest .badField (u8 n ++ u8 f))) ∧
  (∀ (cs : List Carrier) (l : Lineup),
    (stageCarriers cs l).carriers.Perm (l.carriers ++ cs) ∧
    (stageCarriers cs l).services = l.services ∧ (stageCarriers cs l).version = l.version ∧
    (l.carriers.Pairwise (fun c d => c.id ≤ d.id) →
      (stageCarriers cs l).carriers.Pairwise fun c d => c.id ≤ d.id)) ∧
  (∀ (vs : List Service) (l : Lineup),
    (stageServices vs l).services.Perm (l.services ++ vs) ∧
    (stageServices vs l).carriers = l.carriers ∧ (stageServices vs l).version = l.version ∧
    (l.services.Pairwise (fun v w => v.channel ≤ w.channel) →
      (stageServices vs l).services.Pairwise fun v w => v.channel ≤ w.channel))

/-- Records read back: a number written in bytes is read as it was; a service record in range that is written
in bytes and read as LINEUP ADD reads it gives the same record, with every component, language and optional
field, and leaves the rest of the body; the same holds of a carrier record, and of lists of up to 255 of either
(R23, R24, R185; the bytes of a record are the model's, log entry 10). -/
def Obligations.LineupRecordsReadBack : Prop :=
  (∀ w n : Nat, n < 256 ^ w → beNat (beBytes w n) = n ∧ (beBytes w n).length = w) ∧
  (∀ (v : Service) (rest : List Byte), serviceError v = none →
    takeService (v.bytes ++ rest) = some (.ok v, rest)) ∧
  (∀ (c : Carrier) (rest : List Byte), carrierError c = none →
    takeCarrier (c.bytes ++ rest) = some (.ok c, rest)) ∧
  (∀ vs : List Service, vs.length ≤ 255 → (∀ v ∈ vs, serviceError v = none) →
    recordsOf takeService (listBytes Service.bytes vs) = some (.ok vs)) ∧
  (∀ cs : List Carrier, cs.length ≤ 255 → (∀ c ∈ cs, carrierError c = none) →
    recordsOf takeCarrier (listBytes Carrier.bytes cs) = some (.ok cs))

/-- LINEUP END closes the staging lineup. A lineup that fails a check is refused BAD_LINEUP with the check and
the id, and the active lineup stands (R29). A valid one is committed outside QUIESCING: it becomes the active
lineup, each path that is not TUNING takes the record its service id has in it, or goes IDLE(SERVICE_REMOVED)
when it has none, and a job whose service it lacks does not stay SCHEDULED or ACTIVE (R30, R33, R36); in
QUIESCING it is held, and committed when the drain ends in that same action (R31). The codes of the outcomes in
the reply, COMMITTED 1 and HELD 2, are the model's choice (log entry 11).

The checks of a staging lineup, in their order, each with the lowest id that fails it: no carrier id twice,
no service id twice, no channel number twice, every carrier of a service present (R29). -/
def Obligations.LineupEnds : Prop :=
  (∀ (s : State) (a : Agent) (tag : Nat) (rest : List Request),
    Taken s a .lineupEnd tag [] rest → s.staging = none →
    exec (.lineupEnd a) s = .next (answeredState s a tag rest .noStaging [])) ∧
  (∀ (s : State) (a : Agent) (tag n i : Nat) (rest : List Request) (l : Lineup),
    Taken s a .lineupEnd tag [] rest → s.staging = some l → lineupFailure l = some (n, i) →
    ∃ t, exec (.lineupEnd a) s = .next t ∧ t.staging = none ∧
      Answers s t a tag rest .badLineup (u8 n ++ u16 i) ∧
      (s.power.state ≠ .quiescing → t.lineup = s.lineup)) ∧
  (∀ (s : State) (a : Agent) (tag : Nat) (rest : List Request) (l : Lineup),
    Taken s a .lineupEnd tag [] rest → s.staging = some l → lineupFailure l = none →
    s.power.state ≠ .quiescing →
    ∃ t, exec (.lineupEnd a) s = .next t ∧ t.staging = none ∧ t.lineup = l ∧
      Answers s t a tag rest .ok (u8 1 ++ u8 l.carriers.length ++ u16 l.services.length) ∧
      t.guide = s.guide ∧
      (NoStartDue s → ∀ p snap, (s.path p).snapshot = some snap → (s.path p).state ≠ .tuning →
        (t.path p).snapshot = l.service snap.id ∧
        (l.service snap.id = none → (t.path p).state = .idle .serviceRemoved)) ∧
      (NoStartDue s → TablesOk s → ∀ j ∈ t.jobs.list, j.finished = false →
        (l.service j.service).isSome = true)) ∧
  (∀ (s : State) (a : Agent) (tag : Nat) (rest : List Request) (l : Lineup),
    Taken s a .lineupEnd tag [] rest → s.staging = some l → lineupFailure l = none →
    s.power.state = .quiescing →
    ∃ t, exec (.lineupEnd a) s = .next t ∧ t.staging = none ∧
      Answers s t a tag rest .ok (u8 2) ∧
      (t.power.state = .quiescing ∧ t.power.held = some l ∧ t.lineup = s.lineup ∨
        t.power.state ≠ .quiescing ∧ t.power.held = none ∧ t.lineup = l)) ∧
  (∀ l : Lineup,
    let c := l.carriers.map (·.id)
    let v := l.services.map (·.id)
    let h := l.services.map (·.channel)
    let lost (w : Service) : Prop := ∀ r ∈ l.carriers, r.id ≠ w.carrier
    (lineupFailure l = none ↔
      c.Nodup ∧ v.Nodup ∧ h.Nodup ∧ ∀ w ∈ l.services, ¬ lost w) ∧
    (∀ i, lineupFailure l = some (1, i) ↔ Least (fun n => 2 ≤ c.count n) i) ∧
    (∀ i, lineupFailure l = some (2, i) ↔ c.Nodup ∧ Least (fun n => 2 ≤ v.count n) i) ∧
    (∀ i, lineupFailure l = some (3, i) ↔
      c.Nodup ∧ v.Nodup ∧ Least (fun n => 2 ≤ h.count n) i) ∧
    (∀ i, lineupFailure l = some (4, i) ↔ c.Nodup ∧ v.Nodup ∧ h.Nodup ∧
      Least (fun n => ∃ w ∈ l.services, w.id = n ∧ lost w) i))

/-! ## The guide -/

/-- An accepted GUIDE LOAD takes its events one after another: the first that applies of no duration, an end at or
below now and a start more than 1,209,600 s ahead drops the event and counts it, the last two while time is set
alone (R45); any other finds its place, or no room (R46, R47). Each is counted once, and the reply carries the
counts (R48). GUIDE DROP removes
the one event named, or is refused NO_EVENT, and a path on the service takes a lookup (R49, R93; an event of the same
id with the times the guide gives, log entry 36: the model's reading). The sweep
expiry sets the next one 60,000 ahead and removes the events that ended more than 3,600 s ago (R50). -/
def Obligations.GuideCommandsDo : Prop :=
  (∀ (s : State) (a : Agent) (sid tag : Nat) (es : List GuideEvent) (body bs : List Byte)
      (rest : List Request),
    Taken s a .guideLoad tag body rest → takeFields [2] body = some ([sid], bs) → 1 ≤ sid →
    takeList (takeEvent sid) bs = some (es.map some, []) → 1 ≤ es.length → es.length ≤ 16 →
    let r := es.foldl (loadEvent (if s.timeKnown then some s.netSec else none))
      (LoadCount.none, s.guide.pool)
    ∃ t, exec (.guideLoad a) s = .next t ∧ t.guide = ⟨r.2, s.guide.sweepExpiry⟩ ∧
      Answers s t a tag rest .ok (loadBody r.1 t) ∧
      r.1.inserted + r.1.zero + r.1.ended + r.1.beyond + r.1.noRoom = es.length) ∧
  (∀ (now : Option NetSec) (k : LoadCount) (pool : List GuideEvent) (e : GuideEvent),
    let stop := e.start + e.duration
    (e.duration = 0 → loadEvent now (k, pool) e = ({ k with zero := k.zero + 1 }, pool)) ∧
    (e.duration ≠ 0 →
      (now = none → loadEvent now (k, pool) e = insertEvent e k pool) ∧
      (∀ t, now = some t →
        (stop ≤ t → loadEvent now (k, pool) e = ({ k with ended := k.ended + 1 }, pool)) ∧
        (t < stop → t + 1209600 < e.start →
          loadEvent now (k, pool) e = ({ k with beyond := k.beyond + 1 }, pool)) ∧
        (t < stop → e.start ≤ t + 1209600 →
          loadEvent now (k, pool) e = insertEvent e k pool)))) ∧
  (∀ (s : State) (a : Agent) (sid eid tag : Nat) (body : List Byte) (rest : List Request),
    Taken s a .guideDrop tag body rest → fields [2, 2] body = some [sid, eid] → 1 ≤ sid →
    (s.guide.event sid eid = none →
      exec (.guideDrop a) s = .next (answeredState s a tag rest .noEvent [])) ∧
    (s.guide.event sid eid ≠ none →
      ∃ t, exec (.guideDrop a) s = .next t ∧ Answers s t a tag rest .ok [] ∧
        t.guide.sweepExpiry = s.guide.sweepExpiry ∧
        t.guide.pool = s.guide.pool.filter (fun e => !(e.service == sid && e.id == eid)) ∧
        (s.jobs.list = [] → s.power.state = .active → s.timeKnown = true →
          ∀ p v, (s.path p).snapshot = some v → v.id = sid →
            (t.path p).currentEvent =
              (t.guide.current sid s.netSec).map (fun e => ⟨e.id, e.start, e.start + e.duration⟩)))) ∧
  (∀ s : State, s.guide.sweepExpiry ≤ s.localCount →
    ∃ t, exec .sweepExpiry s = .next t ∧ t.guide.sweepExpiry = s.localCount + 60000 ∧
      t.guide.pool = (if s.timeKnown then
        s.guide.pool.filter fun e => decide (s.netSec ≤ e.start + e.duration + 3600)
      else s.guide.pool)) ∧
  (∀ s : State, s.localCount < s.guide.sweepExpiry → exec .sweepExpiry s = .next s)

/-- How an event finds its place in a pool of at most 4096 events without overlaps (R46, R47). The events of its
service that overlap it or carry its event id give way, and are counted as replaced. When fewer than 4096
remain the event joins them. When 4096 remain, the event that stands latest by start and then by service id, the
new one among them, is not kept: the new one is dropped for want of room, or that event is evicted. -/
def Obligations.EventPlaced : Prop :=
  ∀ (s : State) (e : GuideEvent) (k : LoadCount), GuideOk s →
    let gives (f : GuideEvent) : Prop := f.service = e.service ∧
      (f.id = e.id ∨ (e.start < f.start + f.duration ∧ f.start < e.start + e.duration))
    let stays (f : GuideEvent) : Prop := f ∈ s.guide.pool ∧ ¬ gives f
    let later (f g : GuideEvent) : Prop := g.start < f.start ∨ (g.start = f.start ∧ g.service < f.service)
    let r := insertEvent e k s.guide.pool
    (((∃ f ∈ s.guide.pool, gives f) ∨ s.guide.pool.length < 4096) →
      (∀ f, f ∈ r.2 ↔ f = e ∨ stays f) ∧ r.1.inserted = k.inserted + 1 ∧ r.1.noRoom = k.noRoom ∧
        r.1.evicted = k.evicted ∧
        r.2.length + (r.1.replaced - k.replaced) = s.guide.pool.length + 1 ∧
        k.replaced ≤ r.1.replaced) ∧
    ((∀ f ∈ s.guide.pool, ¬ gives f) → s.guide.pool.length = 4096 →
      ∃ f ∈ s.guide.pool, (∀ g ∈ s.guide.pool, ¬ later g f) ∧
        (later f e → (∀ g, g ∈ r.2 ↔ g = e ∨ (g ∈ s.guide.pool ∧ g ≠ f)) ∧
          r.1.inserted = k.inserted + 1 ∧ r.1.evicted = k.evicted + 1 ∧ r.1.noRoom = k.noRoom) ∧
        (¬ later f e → r.2 = s.guide.pool ∧ r.1.noRoom = k.noRoom + 1 ∧
          r.1.inserted = k.inserted ∧ r.1.evicted = k.evicted))

/-- The lookups of the guide: the current event is the one event of the service that covers the second; the
next boundary is its end or, when there is none, the start of the earliest later event, or absent; the event of
a service id and an event id is the one event that carries both (R40, R41). -/
def Obligations.GuideLookups : Prop :=
  ∀ (s : State) (sid eid : Nat) (t : NetSec), GuideOk s →
    (∀ e, s.guide.current sid t = some e ↔
      e ∈ s.guide.pool ∧ e.service = sid ∧ e.start ≤ t ∧ t < e.start + e.duration) ∧
    (∀ e, s.guide.current sid t = some e → s.guide.boundary sid t = some (e.start + e.duration)) ∧
    (s.guide.current sid t = none →
      (∀ b, s.guide.boundary sid t = some b ↔
        Least (fun x => ∃ e ∈ s.guide.pool, e.service = sid ∧ e.start = x ∧ t < x) b)) ∧
    (∀ e, s.guide.event sid eid = some e ↔ e ∈ s.guide.pool ∧ e.service = sid ∧ e.id = eid)

/-! ## Carrier inputs -/

/-- What a tuner's report does (R55, R56). A report on a FREE input, or of another sequence, changes nothing, and
neither do LOCK in LOCKED, NO_SIGNAL in LOST, and UNLOCK outside LOCKED. Otherwise the input becomes LOCKED with
no expiry, or LOST with a re-tune expiry 5,000 ahead, and no other input changes; a holder of a LOST input is
STALLED(NO_SIGNAL) (R59, R83). The tune timeout acts as a NO_SIGNAL (R57). So in a settled state in which no
holder in TUNING has a commit to compare with (R35).

The re-tune expiry of a LOST input sends one tune command for its carrier with the next sequence, from 255 to
0, and is set again 5,000 ahead; the input stays LOST (R58, R54). Before its count it does nothing (log entry 1). -/
def Obligations.TunerReports : Prop :=
  (∀ (s : State) (i : InputNo) (q : Nat), ((s.input i).state = .free ∨ (s.input i).sequence ≠ q) →
    exec (.tunerLock i q) s = .next s ∧ exec (.tunerNoSignal i q) s = .next s ∧
      exec (.tunerUnlock i q) s = .next s) ∧
  (∀ (s : State) (i : InputNo) (q : Nat),
    ((s.input i).state = .locked → exec (.tunerLock i q) s = .next s) ∧
    ((s.input i).state = .lost → exec (.tunerNoSignal i q) s = .next s) ∧
    ((s.input i).state ≠ .locked → exec (.tunerUnlock i q) s = .next s)) ∧
  (∀ (s : State) (i : InputNo) (c : Instr), Settled s →
    (∀ p ∈ (s.input i).holders, (s.path p).state = .tuning →
      ∀ v, (s.path p).snapshot = some v → commitCase s.lineup v = .unchanged) →
    ((c = .tunerLock i (s.input i).sequence →
        ((s.input i).state = .tuning ∨ (s.input i).state = .lost) →
        ∃ t, exec c s = .next t ∧
          t.input i = { s.input i with state := .locked, tuneTimeout := none, retune := none } ∧
          (∀ j, j ≠ i → t.input j = s.input j) ∧
          (∀ p, (t.path p).snapshot = (s.path p).snapshot ∧
            (t.path p).heldInput = (s.path p).heldInput) ∧
          t.time.inBandInput = lowestLocked t) ∧
      ((c = .tunerNoSignal i (s.input i).sequence ∧
            ((s.input i).state = .tuning ∨ (s.input i).state = .locked) ∨
          c = .tunerUnlock i (s.input i).sequence ∧ (s.input i).state = .locked ∨
          c = .tuneTimeout i ∧ (s.input i).state = .tuning ∧
            s.reached (s.input i).tuneTimeout = true) →
        ∃ t, exec c s = .next t ∧
          t.input i = { s.input i with
            state := .lost, tuneTimeout := none, retune := some (s.localCount + 5000) } ∧
          (∀ j, j ≠ i → t.input j = s.input j) ∧
          (∀ p, (t.path p).snapshot = (s.path p).snapshot ∧
            (t.path p).heldInput = (s.path p).heldInput) ∧
          ∀ p ∈ (s.input i).holders, (s.path p).snapshot ≠ none → (s.path p).heldInput = some i →
            (t.path p).state = .stalled .noSignal))) ∧
  (∀ (s : State) (i : InputNo),
    ((s.input i).state ≠ .tuning ∨ s.reached (s.input i).tuneTimeout = false) →
    exec (.tuneTimeout i) s = .next s) ∧
  (∀ (s : State) (i : InputNo) (c : Nat) (r : Carrier), (s.input i).state = .lost →
    s.reached (s.input i).retune = true → (s.input i).carrier = some c → s.lineup.carrier c = some r →
    let q := if (s.input i).sequence = 255 then 0 else (s.input i).sequence + 1
    (s.input i).sequence ≤ 255 →
    exec (.retuneExpiry i) s = .next
      ((s.setInput i { s.input i with
        sequence := q, tuneStart := s.localCount, retune := some (s.localCount + 5000) }).setSent
        (s.sent ++ [.tune i r.frequency r.modulation r.symbolRate q]))) ∧
  (∀ (s : State) (i : InputNo),
    ((s.input i).state ≠ .lost ∨ s.reached (s.input i).retune = false) →
    exec (.retuneExpiry i) s = .next s)

/-- A path forwards packets in PRESENTING alone: a component packet marked clear goes out unchanged, one marked
for a phase goes out descrambled with the key of that phase's slot when the slot is LOADED, and nothing else goes
out; packets keep their order (R88). An input that is not LOCKED discards its packets, and each holder of a
LOCKED one takes the packet by its own snapshot (R60, R87). What descrambling gives is free (log entry 3).

A time section is taken as an in-band mark when IN_BAND is selected and it came from the in-band input, and
is discarded otherwise; it goes to no path (R7, R60). In UNSET the mark anchors the clock (R9), and in SET and
HOLDOVER it is rejected, or corrects rate and phase, as an out-of-band mark does (R10 to R13). -/
def Obligations.PacketsForwarded : Prop :=
  (∀ (s : State) (i : InputNo) (pkt : Packet), (s.input i).state ≠ .locked →
    exec (.transportPacket i pkt) s = .next s) ∧
  (∀ (s : State) (i : InputNo) (pkt : Packet), Settled s → (s.input i).state = .locked →
    pkt.tag ≠ 8001 →
    (∀ p ∈ (s.input i).holders, ∀ v, (s.path p).snapshot = some v → v.keyTag ≠ some pkt.tag) →
    exec (.transportPacket i pkt) s =
      .next (s.setSent (s.sent ++ (s.input i).holders.filterMap (forwarded s pkt)))) ∧
  (∀ (s : State) (i : InputNo) (p : PathNo) (v : Service) (pkt : Packet), Settled s →
    (s.input i).state = .locked → pkt.tag ≠ 8001 → (s.input i).holders = [p] →
    (s.path p).snapshot = some v → (∃ c ∈ v.components, c.tag = pkt.tag) →
    exec (.transportPacket i pkt) s = .next
      (if (s.path p).state = .presenting then
        match pkt.mark with
        | .clear => s.setSent (s.sent ++ [.packet p pkt.tag pkt.payload])
        | .phase .a => (match (s.path p).slotA.loaded with
          | some k => s.setSent (s.sent ++ [.packet p pkt.tag (Config.descramble k.key pkt.payload)])
          | none => s)
        | .phase .b => (match (s.path p).slotB.loaded with
          | some k => s.setSent (s.sent ++ [.packet p pkt.tag (Config.descramble k.key pkt.payload)])
          | none => s)
      else s)) ∧
  (∀ (s : State) (i : InputNo) (pkt : Packet), Settled s → (s.input i).state = .locked →
    pkt.tag = 8001 → (s.time.source = .outOfBand ∨ s.time.inBandInput ≠ some i) →
    exec (.transportPacket i pkt) s = .next s) ∧
  (∀ (s : State) (i : InputNo) (pkt : Packet) (n : Nat), (s.input i).state = .locked →
    pkt.tag = 8001 → fields [8] pkt.payload = some [n] → s.time.source = .inBand →
    s.time.inBandInput = some i → s.time.state = .unset →
    ∃ t, exec (.transportPacket i pkt) s = .next t ∧ t.time.baseT = n ∧
      t.time.baseL = s.localCount ∧ t.time.state = .set ∧
      t.time.holdover = some (s.localCount + 1800000) ∧ t.time.rate = s.time.rate) ∧
  (∀ (s : State) (i : InputNo) (pkt : Packet) (n : Nat), (s.input i).state = .locked →
    pkt.tag = 8001 → fields [8] pkt.payload = some [n] → s.time.source = .inBand →
    s.time.inBandInput = some i → s.time.state ≠ .unset →
    let l := s.localCount
    let e : Int := (n : Int) - (s.netMs : Int)
    ∃ t, exec (.transportPacket i pkt) s = .next t ∧
      (e < -600000 → clockOf t.time = clockOf s.time) ∧
      (-600000 ≤ e → clockOf t.time = clockOf { correctPhase l n e (learnRate l ⟨.inBand, some i, n⟩ s.time)
        with prevMark := none, holdover := some (l + 1800000), state := .set }))

/-! ## Stream paths -/

/-- The checks of a channel change, in their order (R76): a field out of range, ASLEEP outside ACTIVE, NO_SERVICE when
no service is found, the outcome UNCHANGED with the path's present state for the service the path has (its code and
the state without its reason: log entries 11 and 10), NO_INPUT when no input can serve the carrier. None of them
changes anything but that the request is answered. The carrier can be served when an input has it, an input is FREE,
or the path holds an input that no other path holds (R63). -/
def Obligations.ChannelChecks : Prop :=
  (∀ (s : State) (a : Agent) (n sel x tag : Nat) (body : List Byte) (rest : List Request),
    Taken s a .tunePath tag body rest → fields [1, 1, 2] body = some [n, sel, x] →
    (2 ≤ n ∨ (sel ≠ 1 ∧ sel ≠ 2) ∨ x = 0 ∨ (sel = 2 ∧ 9999 < x)) →
    exec (.tunePath a) s = .next (answeredState s a tag rest .badField [])) ∧
  (∀ (s : State) (a : Agent) (n d tag : Nat) (body : List Byte) (rest : List Request),
    Taken s a .stepPath tag body rest → fields [1, 1] body = some [n, d] →
    (2 ≤ n ∨ (d ≠ 1 ∧ d ≠ 2)) →
    exec (.stepPath a) s = .next (answeredState s a tag rest .badField [])) ∧
  (∀ (s : State) (a : Agent) (tag : Nat) (rest : List Request) (c : Instr) (p : PathNo)
      (found : Option Service), Asks s a tag rest c p found →
    (s.power.state ≠ .active → exec c s = .next (answeredState s a tag rest .asleep [])) ∧
    (s.power.state = .active → found = none →
      exec c s = .next (answeredState s a tag rest .noService [])) ∧
    (s.power.state = .active → ∀ v w, found = some v → (s.path p).snapshot = some w →
      w.id = v.id →
      exec c s = .next (answeredState s a tag rest .ok (u8 2 ++ u8 (s.path p).state.code))) ∧
    (s.power.state = .active → ∀ v, found = some v →
      (∀ w, (s.path p).snapshot = some w → w.id ≠ v.id) → changeServable p v.carrier s = false →
      exec c s = .next (answeredState s a tag rest .noInput []))) ∧
  (∀ (s : State) (p : PathNo) (c : Nat), changeServable p c s = true ↔
    (∃ i, (s.input i).state ≠ .free ∧ (s.input i).carrier = some c) ∨
    (∃ i, (s.input i).state = .free) ∨
    ∃ i, (s.path p).heldInput = some i ∧ (s.input i).holders = [p])

/-- An accepted channel change (R77): the path leaves the claim queue, its slots become EMPTY and its unlock
absent, it takes a copy of the service's record, its last service and last change, and the lookup of its current
event; it holds an input that has the service's carrier, kept, shared, or tuned for it; the reply carries the
outcome CHANGED (its code: log entry 11) with the service, the held input (with its mark: log entry 10) and the
state reached. No other path's service changes. -/
def Obligations.ChannelChanges : Prop :=
  ∀ (s : State) (a : Agent) (tag : Nat) (rest : List Request) (c : Instr) (p : PathNo) (v : Service),
    Asks s a tag rest c p (some v) → s.power.state = .active → HoldersOk s → NoStartDue s →
    (∀ w, (s.path p).snapshot = some w → w.id ≠ v.id) → changeServable p v.carrier s = true →
    ∃ t, exec c s = .next t ∧ Answers s t a tag rest .ok (changedBody p v t) ∧
      (t.path p).snapshot = some v ∧ (t.path p).lastService = some v.id ∧
      (t.path p).lastChange = s.localCount ∧ (t.path p).unlock = none ∧
      (t.path p).slotA = Slot.empty ∧ (t.path p).slotB = Slot.empty ∧
      (t.path p).currentEvent = (if s.timeKnown then
        (s.guide.current v.id s.netSec).map fun e => ⟨e.id, e.start, e.start + e.duration⟩ else none) ∧
      p ∉ t.claimQueue ∧
      (∃ i, (t.path p).heldInput = some i ∧ (t.input i).carrier = some v.carrier ∧
        p ∈ (t.input i).holders ∧
        ((t.input i).state = .tuning → (t.path p).state = .tuning) ∧
        ((t.input i).state = .lost → (t.path p).state = .stalled .noSignal) ∧
        (inputWith s v.carrier = none → (t.input i).state = .tuning ∧
          (t.input i).sequence = ((s.input i).sequence + 1) % 256 ∧
          (t.input i).tuneStart = s.localCount ∧
          (t.input i).tuneTimeout = some (s.localCount + 1500)) ∧
        (∀ j, (s.path p).heldInput = some j → (s.input j).carrier = some v.carrier → i = j) ∧
        ∀ j, j ≠ i → p ∉ (t.input j).holders) ∧
      ∀ q, q ≠ p → (t.path q).snapshot = (s.path q).snapshot

/-- The walk of STEP PATH over a lineup in order of channel number (R75): a service is passed over when it is
HIDDEN, or when the active profile skips and has it blocked. UP finds the lowest channel above the start, and
the lowest of all when there is none above or no start; DOWN the highest below the start, and the highest of all;
no service is found when every one is passed over. The start is the channel of the path's last service when the
lineup holds it. -/
def Obligations.StepWalk : Prop :=
  ∀ (s : State) (p : PathNo), s.lineup.services.Pairwise (fun v w => v.channel < w.channel) →
    let shown (v : Service) : Prop := v ∈ s.lineup.services ∧ v.hidden = false ∧
      ¬ (s.parental.activeProfile.skip = true ∧ v.id ∈ s.parental.activeProfile.blocked)
    let start : Option Nat :=
      ((s.path p).lastService.bind fun sid => s.lineup.service sid).map (·.channel)
    (∀ v, stepFound s p true = some v ↔ shown v ∧
      ((∃ ch, start = some ch ∧ ch < v.channel ∧
          ∀ w, shown w → ch < w.channel → v.channel ≤ w.channel) ∨
        ((∀ ch, start = some ch → ∀ w, shown w → w.channel ≤ ch) ∧
          ∀ w, shown w → v.channel ≤ w.channel))) ∧
    (∀ v, stepFound s p false = some v ↔ shown v ∧
      ((∃ ch, start = some ch ∧ v.channel < ch ∧
          ∀ w, shown w → w.channel < ch → w.channel ≤ v.channel) ∨
        ((∀ ch, start = some ch → ∀ w, shown w → ch ≤ w.channel) ∧
          ∀ w, shown w → w.channel ≤ v.channel))) ∧
    ∀ up, stepFound s p up = none ↔ ∀ v, ¬ shown v

/-- RELEASE PATH makes a view path that has a service IDLE(RELEASED): its input, slots, snapshot, current event,
boundary timer and unlock are gone, it has left the claim queue, and its last service and last change stand; an
input it held alone becomes FREE when no path waits for one, and otherwise keeps its other holders (R80, R73,
R64). An IDLE path is left as it is, and another path number is refused BAD_FIELD. -/
def Obligations.PathReleased : Prop :=
  (∀ (s : State) (a : Agent) (p : PathNo) (tag : Nat) (body : List Byte) (rest : List Request),
    Taken s a .releasePath tag body rest → fields [1] body = some [p.val] → p.val < 2 →
    (Settled s → (s.path p).snapshot = none →
      exec (.releasePath a) s = .next (answeredState s a tag rest .ok [])) ∧
    (NoStartDue s → (s.path p).snapshot ≠ none → s.power.state = .active →
      ∃ t, exec (.releasePath a) s = .next t ∧ Answers s t a tag rest .ok [] ∧
        t.path p = { s.path p with
          state := .idle .released, snapshot := none, heldInput := none, currentEvent := none,
          boundary := none, slotA := Slot.empty, slotB := Slot.empty, unlock := none, job := none } ∧
        p ∉ t.claimQueue ∧
        (∀ q, q ≠ p → (t.path q).snapshot = (s.path q).snapshot) ∧
        ∀ i, (s.path p).heldInput = some i → s.claimQueue = [] →
          t.input i = (if (s.input i).holders.filter (· != p) = [] then
            { s.input i with state := .free, carrier := none, holders := [], tuneTimeout := none,
                             retune := none }
          else { s.input i with holders := (s.input i).holders.filter (· != p) }) ∧
          ∀ j, j ≠ i → t.input j = s.input j)) ∧
  (∀ (s : State) (a : Agent) (n tag : Nat) (body : List Byte) (rest : List Request),
    Taken s a .releasePath tag body rest → fields [1] body = some [n] → 2 ≤ n →
    exec (.releasePath a) s = .next (answeredState s a tag rest .badField []))

/-- The gate gives its verdict by the first line that applies, and the verdict becomes the path's state and
reason (R83). DENIED and STALLED(INPUT_TAKEN) cancel the path's unwraps and empty both key slots; every other
verdict leaves the slots and the Card Link as they stand (R85). No other path and no input changes. -/
def Obligations.GateVerdict : Prop :=
  ∀ (s : State) (p : PathNo) (v : Service), (s.path p).snapshot = some v →
    let x := s.path p
    let y := (gate p s).path p
    (x.heldInput = none → y.state = .stalled .inputTaken) ∧
    (∀ i, x.heldInput = some i →
      ((s.input i).state = .tuning → y.state = .tuning) ∧
      ((s.input i).state = .lost → y.state = .stalled .noSignal) ∧
      ((s.input i).state = .locked →
        (∀ r, accessTest s x v = some r → y.state = .denied r) ∧
        (accessTest s x v = none →
          (∀ r, p.val < 2 → parentalVerdict s x v = some r → y.state = .blocked r) ∧
          ((p.val < 2 → parentalVerdict s x v = none) →
            (v.access ≠ .free → x.slotA.loaded = none → x.slotB.loaded = none →
              y.state = .acquiring) ∧
            ((v.access = .free ∨ x.slotA.loaded ≠ none ∨ x.slotB.loaded ≠ none) →
              y.state = .presenting))))) ∧
    ((y.state = .stalled .inputTaken ∨ ∃ r, y.state = .denied r) →
      y = { x with state := y.state, slotA := Slot.empty, slotB := Slot.empty } ∧
      (∀ tx ∈ (gate p s).card.waiting, ∀ ph n q w, tx ≠ .unwrap p ph n q w) ∧
      (∀ e ∈ (gate p s).card.outstanding, ∀ ph n q w, e.tx = .unwrap p ph n q w → e.stale = true) ∧
      (∀ tx, (∀ ph n q w, tx ≠ .unwrap p ph n q w) →
        (tx ∈ (gate p s).card.waiting ↔ tx ∈ s.card.waiting))) ∧
    (¬ (y.state = .stalled .inputTaken ∨ ∃ r, y.state = .denied r) →
      y = { x with state := y.state } ∧ (gate p s).card = s.card) ∧
    (∀ q, q ≠ p → (gate p s).path q = s.path q) ∧ (gate p s).inputs = s.inputs

/-- The boundary timer of a path (R90, R89, R91): when it is reached the current event and the next boundary are
those the guide gives at the present second, the timer stands at the first count of that boundary, and an unlock
that no longer matches the current event is dropped; before its count nothing changes (log entry 1). An event that
keeps its id takes the start and end the guide now gives (log entry 36: the model's reading). -/
def Obligations.BoundaryTaken : Prop :=
  (∀ (s : State) (p : PathNo) (v : Service) (b : Boundary), Settled s →
    (s.path p).snapshot = some v → (s.path p).boundary = some b → b.expiry ≤ s.localCount →
    ∃ t, exec (.boundaryExpiry p) s = .next t ∧
      let ev := if s.timeKnown then s.guide.current v.id s.netSec else none
      (t.path p).snapshot = some v ∧
      (t.path p).currentEvent = ev.map (fun e => ⟨e.id, e.start, e.start + e.duration⟩) ∧
      (t.path p).boundary = (if s.timeKnown then
        (s.guide.boundary v.id s.netSec).map fun m => ⟨m, s.expiryOfSec m⟩ else none) ∧
      (∀ u, (s.path p).unlock = some u →
        (t.path p).unlock = (if u.event = ev.map (·.id) then some u else none)) ∧
      ((s.path p).unlock = none → (t.path p).unlock = none) ∧
      (∀ q, q ≠ p → (t.path q).currentEvent = (s.path q).currentEvent) ∧ t.inputs = s.inputs) ∧
  (∀ (s : State) (p : PathNo), (∀ b, (s.path p).boundary = some b → s.localCount < b.expiry) →
    exec (.boundaryExpiry p) s = .next s)

/-! ## Entitlements, credit and purchases -/

/-- The access test of a path with a service (R98).

The requirement test of a key message on a service: a tier by the checks 1 to 4 of R98, an event by the
purchase of the service id and that event id, whatever the path's current event (R99). -/
def Obligations.AccessTests : Prop :=
  (∀ (s : State) (x : Path) (v : Service),
    let unset : Prop := s.time.state = .unset
    let noCard : Prop := s.card.state = .absent ∨ s.card.state = .faulted
    (v.access = .free → accessTest s x v = none) ∧
    (∀ n, v.access = .tier n →
      ((∀ r ∈ s.access.tiers, r.tier ≠ n) → accessTest s x v = some .notEntitled) ∧
      (∀ r, r ∈ s.access.tiers → r.tier = n → (∀ q ∈ s.access.tiers, q.tier = n → q = r) →
        (r.expiry ≠ none → unset → accessTest s x v = some .timeUnknown) ∧
        (∀ e, r.expiry = some e → ¬ unset → e ≤ s.netSec →
          accessTest s x v = some .tierExpired) ∧
        ((∀ e, r.expiry = some e → ¬ unset ∧ s.netSec < e) → noCard →
          accessTest s x v = some .cardAbsent) ∧
        ((∀ e, r.expiry = some e → ¬ unset ∧ s.netSec < e) → ¬ noCard →
          accessTest s x v = none))) ∧
    (v.access = .event →
      (unset → accessTest s x v = some .timeUnknown) ∧
      (¬ unset → x.currentEvent = none → accessTest s x v = some .noEvent) ∧
      (∀ c, ¬ unset → x.currentEvent = some c →
        ((∀ r ∈ s.access.purchases, ¬ (r.service = v.id ∧ r.event = c.id)) →
          accessTest s x v = some .notPurchased) ∧
        ((∃ r ∈ s.access.purchases, r.service = v.id ∧ r.event = c.id) →
          (noCard → accessTest s x v = some .cardAbsent) ∧
          (¬ noCard → accessTest s x v = none))))) ∧
  (∀ (s : State) (sid : Nat),
    let unset : Prop := s.time.state = .unset
    let noCard : Prop := s.card.state = .absent ∨ s.card.state = .faulted
    (∀ n, (∀ x : Path, ∀ v : Service, v.access = .tier n →
      requirementTest s sid (.tier n) = accessTest s x v)) ∧
    (∀ e,
      (unset → requirementTest s sid (.event e) = some .timeUnknown) ∧
      (¬ unset → (∀ r ∈ s.access.purchases, ¬ (r.service = sid ∧ r.event = e)) →
        requirementTest s sid (.event e) = some .notPurchased) ∧
      (¬ unset → (∃ r ∈ s.access.purchases, r.service = sid ∧ r.event = e) →
        (noCard → requirementTest s sid (.event e) = some .cardAbsent) ∧
        (¬ noCard → requirementTest s sid (.event e) = none))))

/-- The only commands that can give the viewer something are a DONE of the card with the verdict VALID and a
power reset, which takes the stored image. Every other command leaves the credit at or below what it was, adds
no tier record and no granted purchase record, and adds a purchase record of an event only with its price
debited (R100, R96, R105, R106). -/
def Obligations.NothingGivenWithoutCard : Prop :=
  ∀ (c : Instr) (s t : State), exec c s = .next t → c ≠ .powerReset →
    (∀ k, c ≠ .cardDone k (.verdict true)) →
    t.access.balance ≤ s.access.balance ∧
    (∀ r ∈ t.access.tiers, ∃ q ∈ s.access.tiers, q.tier = r.tier ∧ q.expiry = r.expiry) ∧
    (∀ r ∈ t.access.purchases,
      (∀ q ∈ s.access.purchases, q.service ≠ r.service ∨ q.event ≠ r.event) →
      r.granted = false ∧ t.access.balance + r.price ≤ s.access.balance)

/-- PURCHASE (R103, R104, R105), with its checks in order and its carrying out. BAD_FIELD carries the field, 1 the
service id or 3 the PIN (log entry 11), and no body when the length does not fit (log entry 10). An event is for sale
when the lineup holds the service as one of class EVENT and the guide the event with a price above 0. The balance
falls by the price and a record of the event, bought at the present network second, enters at the tail of the list
with its end expiry; the reply carries the balance and the number of records. The end of an event or record and the
purchase time take four bytes in a reply (log entry 10: the model's choice). The PIN check of profile 0 passes
whatever the body carries; under the other profiles the accepted PINs are the master PIN alone, or the profile's own
as well. A right PIN stays counted as right when a later order refuses (log entry 31: the model's reading). -/
def Obligations.PurchaseTaken : Prop :=
  (∀ (s : State) (given : Pin),
    (s.parental.active = 0 → purchaseCheck given s = (.passed, s)) ∧
    (s.parental.active ≠ 0 → s.parental.activeProfile.purchasePin = true →
      purchaseCheck given s = pinCheck given [s.parental.masterPin] s) ∧
    (s.parental.active ≠ 0 → s.parental.activeProfile.purchasePin = false →
      purchaseCheck given s =
        pinCheck given [s.parental.activeProfile.pin, s.parental.masterPin] s)) ∧
  (∀ (s : State) (a : Agent) (sid eid d1 d2 d3 d4 tag : Nat) (body : List Byte)
      (rest : List Request),
    Taken s a .purchase tag body rest → fields [2, 2, 1, 1, 1, 1] body = some [sid, eid, d1, d2, d3, d4] →
    (sid = 0 → exec (.purchase a) s = .next (answeredState s a tag rest .badField (u8 1))) ∧
    (1 ≤ sid → (9 < d1 ∨ 9 < d2 ∨ 9 < d3 ∨ 9 < d4) →
      exec (.purchase a) s = .next (answeredState s a tag rest .badField (u8 3)))) ∧
  (∀ (s : State) (a : Agent) (tag : Nat) (body : List Byte) (rest : List Request),
    Taken s a .purchase tag body rest → body.length ≠ 8 →
    exec (.purchase a) s = .next (answeredState s a tag rest .badField [])) ∧
  (∀ (s : State) (sid eid : Nat) (e : GuideEvent), forSale s sid eid = some e ↔
    (∃ v, s.lineup.service sid = some v ∧ v.access = .event) ∧
      s.guide.event sid eid = some e ∧ 0 < e.price) ∧
  (∀ (s : State) (a : Agent) (sid eid d1 d2 d3 d4 tag : Nat) (body : List Byte)
      (rest : List Request),
    Taken s a .purchase tag body rest → fields [2, 2, 1, 1, 1, 1] body = some [sid, eid, d1, d2, d3, d4] →
    1 ≤ sid → d1 ≤ 9 → d2 ≤ 9 → d3 ≤ 9 → d4 ≤ 9 →
    (s.power.state ≠ .active → exec (.purchase a) s = .next (answeredState s a tag rest .asleep [])) ∧
    (s.power.state = .active → s.time.state = .unset →
      exec (.purchase a) s = .next (answeredState s a tag rest .timeUnknown [])) ∧
    (s.power.state = .active → s.time.state ≠ .unset →
      ∀ (ans : PinAnswer) (u : State), purchaseCheck ⟨d1, d2, d3, d4⟩ s = (ans, u) →
      (∀ st b, ans.refusal = some (st, b) →
        exec (.purchase a) s = .next (answeredState u a tag rest st b) ∧ u.access = s.access) ∧
      (ans = .passed →
        (forSale s sid eid = none →
          exec (.purchase a) s = .next (answeredState u a tag rest .notForSale [])) ∧
        (∀ e, forSale s sid eid = some e →
          (e.stop ≤ s.netSec →
            exec (.purchase a) s = .next (answeredState u a tag rest .tooLate (u32 e.stop))) ∧
          (s.netSec < e.stop →
            (∀ r, s.access.bought sid eid = some r →
              exec (.purchase a) s =
                .next (answeredState u a tag rest .alreadyBought (recordBytes r))) ∧
            (s.access.bought sid eid = none →
              (64 ≤ s.access.purchases.length →
                exec (.purchase a) s =
                  .next (answeredState u a tag rest .listFull (u8 s.access.unreported))) ∧
              (s.access.purchases.length < 64 → s.access.balance < e.price →
                exec (.purchase a) s = .next (answeredState u a tag rest .noCredit
                  (u32 s.access.balance ++ u16 e.price))) ∧
              (s.access.purchases.length < 64 → e.price ≤ s.access.balance → NoStartDue s →
                ∃ t, exec (.purchase a) s = .next t ∧
                  t.access = { s.access with
                    balance := s.access.balance - e.price
                    purchases := s.access.purchases ++
                      [⟨sid, eid, e.start, e.stop, e.price, s.netSec, false, false, false,
                        some (s.expiryOfSec e.stop)⟩] } ∧
                  Answers s t a tag rest .ok (u32 (s.access.balance - e.price) ++
                    u8 (s.access.purchases.length + 1)))))))))

/-- A tier record whose tier expiry is reached leaves the table (R97). A purchase record whose end expiry is reached
leaves the list when it is reported or granted, and otherwise stays without an end expiry (R102). Before their counts,
and for records that are not held, neither expiry does anything (log entry 1). -/
def Obligations.AccessExpiries : Prop :=
  (∀ (s : State) (n : Nat) (r : Tier), s.access.tier n = some r →
    (s.reached r.timer = true → ∃ t, exec (.tierExpiry n) s = .next t ∧
      t.access.tiers = s.access.tiers.filter fun q => q.tier != n) ∧
    (s.reached r.timer = false → exec (.tierExpiry n) s = .next s)) ∧
  (∀ (s : State) (n : Nat), s.access.tier n = none → exec (.tierExpiry n) s = .next s) ∧
  (∀ (s : State) (sid eid : Nat) (r : PurchaseRecord), s.access.bought sid eid = some r →
    (s.reached r.timer = false → exec (.purchaseEndExpiry sid eid) s = .next s) ∧
    (s.reached r.timer = true → NoStartDue s → s.timeKnown = true → r.stop ≤ s.netSec →
      (∀ q ∈ s.access.purchases, q.service = sid → q.event = eid → q = r) →
      ∃ t, exec (.purchaseEndExpiry sid eid) s = .next t ∧
        t.access.balance = s.access.balance ∧ t.access.tiers = s.access.tiers ∧
        t.access.purchases =
          (if r.reported = true ∨ r.granted = true then
            s.access.purchases.filter fun q => !(q.service == sid && q.event == eid)
          else s.access.purchases.map fun q =>
            if q.service == sid && q.event == eid then { q with timer := none } else q))) ∧
  (∀ (s : State) (sid eid : Nat), s.access.bought sid eid = none →
    exec (.purchaseEndExpiry sid eid) s = .next s)

/-- GRANT (R107, R123): a message of bad form is refused BAD_FIELD with its field (log entry 11); with the card ABSENT
or FAULTED it is refused CARD_ABSENT, and with 8 transactions waiting CARD_BUSY. Otherwise the GRANT stays at the head
of its queue and its VERIFY is at the Card Link, sent at once with the lowest free tag and a timeout of 400 when the
card is READY and nothing waits. -/
def Obligations.GrantSubmitted : Prop :=
  ∀ (s : State) (a : Agent) (tag : Nat) (body : List Byte) (rest : List Request),
    Taken s a .grant tag body rest →
    (∀ f, grantOf body = .error f →
      exec (.grant a) s = .next (answeredState s a tag rest .badField (u8 f))) ∧
    (∀ g, grantOf body = .ok g →
      ((s.card.state = .absent ∨ s.card.state = .faulted) →
        exec (.grant a) s = .next (answeredState s a tag rest .cardAbsent [])) ∧
      (s.card.state ≠ .absent → s.card.state ≠ .faulted →
        (8 ≤ s.card.waiting.length →
          exec (.grant a) s = .next (answeredState s a tag rest .cardBusy [])) ∧
        (s.card.waiting.length < 8 →
          let tx : Transaction := .verify a tag body true
          ∃ t, exec (.grant a) s = .next t ∧
            (t.link a).queue = (s.link a).queue ∧ (t.link a).waiting = true ∧
            (tx ∈ t.card.waiting ∨ ∃ e ∈ t.card.outstanding, e.tx = tx) ∧
            t.access.tiers = s.access.tiers ∧
            (s.card.state = .idleClock → t.card.state = .waking ∧
              t.card.wakeExpiry = some (s.localCount + 50)) ∧
            (∀ k, s.card.state = .ready → s.card.waiting = [] → freeTag s.card = some k →
              (⟨k.val, tx, s.localCount, some (s.localCount + 400), none, 0, false⟩ : Entry) ∈
                t.card.outstanding ∧ Sent.cardSend k.val tx ∈ t.sent))))

/-- What a grant does when the card has found it VALID (R108 to R112): the DONE of its VERIFY applies it by its
kind and answers its GRANT. TIER ADD replaces or adds the record of its tier, which is gone at once when its
expiry has passed, and is refused TABLE_FULL at 64 records; TIER REMOVE takes the record out; CREDIT ADD raises
the balance up to 1,000,000; EVENT GRANT appends a granted record, or finds a duplicate, LIST_FULL or an event
that has ended; PIN RESET gives the master PIN and ends counting and lockout. The codes of the outcomes in the
replies to tier and event grants are the model's choice (log entry 11). -/
def Obligations.GrantsApplied : Prop :=
  ∀ (s : State) (k n : Nat) (e : Entry) (l : Agent) (m : List Byte) (g : Grant) (r : Request)
      (rest : List Request),
    (s.card.state = .ready ∨ s.card.state = .waking) → s.card.entry k = some e →
    e.tx = .verify l n m true → grantOf m = .ok g → (s.link l).queue = r :: rest → NoStartDue s →
    let u := s.access
    ∃ t, exec (.cardDone k (.verdict true)) s = .next t ∧
      match g with
      | .tierAdd x ex =>
        let others := u.tiers.filter fun q => q.tier != x
        t.access.balance = u.balance ∧ t.access.purchases = u.purchases ∧
        (if others.length = u.tiers.length ∧ 64 ≤ u.tiers.length then
          t.access = u ∧ Answers s t l r.tag rest .tableFull []
        else if s.timeKnown = true ∧ ex.any (fun y => decide (y ≤ s.netSec)) = true then
          t.access.tiers = others ∧ Answers s t l r.tag rest .ok (u8 3)
        else
          (∀ q, q ∈ t.access.tiers ↔ q ∈ others ∨ q = ⟨x, ex, ex.bind fun y =>
            if s.timeKnown then some (s.expiryOfSec y) else none⟩) ∧
          Answers s t l r.tag rest .ok (u8 (if others.length = u.tiers.length then 2 else 1)))
      | .tierRemove x =>
        let others := u.tiers.filter fun q => q.tier != x
        t.access = { u with tiers := others } ∧
        Answers s t l r.tag rest .ok (u8 (if others.length = u.tiers.length then 5 else 4))
      | .creditAdd x =>
        t.access = { u with balance := if 1000000 < u.balance + x then 1000000 else u.balance + x } ∧
        (if 1000000 < u.balance + x then
          Answers s t l r.tag rest .okClamped (u32 1000000 ++ u32 (u.balance + x - 1000000))
        else Answers s t l r.tag rest .ok (u32 (u.balance + x)))
      | .eventGrant sid eid a b =>
        if (u.bought sid eid).isSome then
          t.access = u ∧ Answers s t l r.tag rest .ok (u8 1)
        else if 64 ≤ u.purchases.length then
          t.access = u ∧ Answers s t l r.tag rest .listFull []
        else if s.timeKnown = true ∧ b ≤ s.netSec then
          t.access = u ∧ Answers s t l r.tag rest .ok (u8 3)
        else
          t.access = { u with purchases := u.purchases ++
            [⟨sid, eid, a, b, 0, if s.timeKnown then s.netSec else 0, true, false, false,
              if s.timeKnown then some (s.expiryOfSec b) else none⟩] } ∧
          Answers s t l r.tag rest .ok (u8 2)
      | .pinReset p =>
        t.access = u ∧ t.parental.masterPin = p ∧ t.parental.attempts = 0 ∧
        t.parental.lockout = none ∧ Answers s t l r.tag rest .ok []

/-- REPORT FETCH answers with the open batch, or opens one with the next number from the first 8 records that are
neither reported nor granted, in list order, and changes nothing when there is none, its reply then carrying the batch
number held and no record (R114; log entry 10: the model's choice, as are the four bytes of a network second). REPORT
CLEAR is refused NO_BATCH in CLOSED and BAD_BATCH for another number; otherwise the records of the batch are reported
and those that have ended leave the list, and the reply counts both (R115). -/
def Obligations.ReportBatch : Prop :=
  (∀ (s : State) (a : Agent) (tag : Nat) (rest : List Request), Taken s a .reportFetch tag [] rest →
    ((s.access.batchOpen = true ∨
        ∀ r ∈ s.access.purchases, r.reported = true ∨ r.granted = true) →
      exec (.reportFetch a) s = .next (answeredState s a tag rest .ok (reportBody s))) ∧
    (s.access.batchOpen = false →
      (∃ r ∈ s.access.purchases, r.reported = false ∧ r.granted = false) →
      let t := s.setAccess { s.access with
        batchOpen := true, batchNumber := (s.access.batchNumber + 1) % 256,
        purchases := markBatch 8 s.access.purchases }
      exec (.reportFetch a) s = .next (answeredState t a tag rest .ok (reportBody t)))) ∧
  (∀ (n : Nat) (l : List PurchaseRecord), (∀ r ∈ l, r.inBatch = false) →
    (markBatch n l).filter (·.inBatch) =
      ((l.filter fun r => !r.reported && !r.granted).take n).map (fun r => { r with inBatch := true }) ∧
    (markBatch n l).map (fun r => { r with inBatch := false }) = l) ∧
  (∀ (s : State) (a : Agent) (n tag : Nat) (body : List Byte) (rest : List Request),
    Taken s a .reportClear tag body rest → fields [1] body = some [n] →
    (s.access.batchOpen = false →
      exec (.reportClear a) s = .next (answeredState s a tag rest .noBatch [])) ∧
    (s.access.batchOpen = true → n ≠ s.access.batchNumber →
      exec (.reportClear a) s = .next (answeredState s a tag rest .badBatch [])) ∧
    (s.access.batchOpen = true → n = s.access.batchNumber → NoStartDue s →
      s.access.purchases.Pairwise (fun r q => r.service ≠ q.service ∨ r.event ≠ q.event) →
      let gone (r : PurchaseRecord) : Bool :=
        r.inBatch && (s.timeKnown && decide (r.stop ≤ s.netSec))
      ∃ t, exec (.reportClear a) s = .next t ∧
        t.access = { s.access with
          batchOpen := false
          purchases := (s.access.purchases.filter fun r => !gone r).map fun r =>
            if r.inBatch then { r with reported := true, inBatch := false } else r } ∧
        Answers s t a tag rest .ok
          (u8 (s.access.purchases.countP (·.inBatch)) ++ u8 (s.access.purchases.countP gone))))

/-! ## The access card and the key slots -/

/-- The states of the card (R119, R121, R129, R132, R139). Insertion signals a reset with a reset expiry 500
ahead; removal ends every transaction, empties every key slot and leaves ABSENT; an answer to reset makes a
RESETTING card READY, with no failure counted; the reset expiry captures RESET_TIMEOUT and makes it FAULTED with
its tables empty; the wake expiry makes a WAKING card READY; CARD RESET empties the tables and signals a reset,
and is refused CARD_ABSENT without a card. In another state, or before its count, each does nothing (log entry
1).

FAULT CLEAR answers with the capture as it stood, in bytes by the model's choice (log entry 10), and empties it
(R133). The card removed under an
outstanding VERIFY answers its GRANT with CARD_ABSENT (R121, R108). -/
def Obligations.CardStates : Prop :=
  (∀ s : State, (s.card.state = .absent →
      ∃ t, exec .cardInsertion s = .next t ∧ t.card.state = .resetting ∧
        t.card.resetExpiry = some (s.localCount + 500) ∧ Sent.cardReset ∈ t.sent) ∧
    (s.card.state ≠ .absent → exec .cardInsertion s = .next s)) ∧
  (∀ s : State, (s.card.state ≠ .absent →
      ∃ t, exec .cardRemoval s = .next t ∧ t.card.state = .absent ∧ t.card.outstanding = [] ∧
        t.card.waiting = [] ∧ t.card.failures = 0 ∧ t.card.resetExpiry = none ∧
        t.card.wakeExpiry = none ∧ (∀ k, t.card.resting.get k = none) ∧
        t.card.capture = s.card.capture ∧
        ∀ p, (t.path p).slotA = Slot.empty ∧ (t.path p).slotB = Slot.empty) ∧
    (s.card.state = .absent → exec .cardRemoval s = .next s)) ∧
  (∀ s : State, (s.card.state = .resetting → s.power.state = .active →
      ∃ t, exec .answerToReset s = .next t ∧ t.card.state = .ready ∧ t.card.resetExpiry = none ∧
        t.card.failures = 0) ∧
    (s.card.state ≠ .resetting → exec .answerToReset s = .next s)) ∧
  (∀ s : State, (s.card.state = .resetting → s.reached s.card.resetExpiry = true →
      ∃ t, exec .cardResetExpiry s = .next t ∧ t.card.state = .faulted ∧ t.card.outstanding = [] ∧
        t.card.waiting = [] ∧ t.card.resetExpiry = none ∧
        t.card.capture = some (match s.card.capture with
          | none => ⟨.resetTimeout, none, none, s.localCount, false⟩
          | some c => { c with lost := true })) ∧
    ((s.card.state ≠ .resetting ∨ s.reached s.card.resetExpiry = false) →
      exec .cardResetExpiry s = .next s)) ∧
  (∀ s : State, (s.card.state = .waking → s.reached s.card.wakeExpiry = true →
      s.power.state = .active →
      ∃ t, exec .cardWakeExpiry s = .next t ∧ t.card.state = .ready ∧ t.card.wakeExpiry = none) ∧
    ((s.card.state ≠ .waking ∨ s.reached s.card.wakeExpiry = false) →
      exec .cardWakeExpiry s = .next s)) ∧
  (∀ (s : State) (a : Agent) (tag : Nat) (rest : List Request), Taken s a .cardReset tag [] rest →
    (s.card.state = .absent →
      exec (.cardReset a) s = .next (answeredState s a tag rest .cardAbsent [])) ∧
    (s.card.state ≠ .absent → NoneDue s a →
      ∃ t, exec (.cardReset a) s = .next t ∧ Answers s t a tag rest .ok [] ∧
        t.card.state = .resetting ∧ t.card.resetExpiry = some (s.localCount + 500) ∧
        t.card.outstanding = [] ∧ t.card.waiting = [] ∧ t.card.failures = 0 ∧
        t.card.capture = s.card.capture ∧ Sent.cardReset ∈ t.sent)) ∧
  (∀ (s : State) (a : Agent) (tag : Nat) (rest : List Request), Taken s a .faultClear tag [] rest →
    exec (.faultClear a) s = .next (answeredState (s.setCard { s.card with capture := none }) a tag rest
      .ok (captureBytes s.card.capture))) ∧
  (∀ (s : State) (e : Entry) (l : Agent) (n : Nat) (m : List Byte) (r : Request)
      (rest : List Request), s.card.state ≠ .absent → s.card.outstanding = [e] →
    s.card.waiting = [] → e.tx = .verify l n m true → (s.link l).queue = r :: rest →
    ∃ t, exec .cardRemoval s = .next t ∧ Answers s t l r.tag rest .cardAbsent [] ∧
      t.access.tiers = s.access.tiers)

/-- What the card's replies and the link's expiries do to an outstanding transaction (R124 to R127, R129). BUSY sets a
re-send 20 ahead in place of the timeout, and the re-send sends the same transaction with the same tag and a new
timeout. The sixteenth BUSY and the timeout fail it: it leaves the table, the fault is captured, the failure counts,
and at the third in a row the card is FAULTED; a timed-out tag rests for 400. REJECT and INVALID end a VERIFY with
INVALID and reset the count of failures. The end of a rest frees the tag. An expiry before its count does nothing (log
entry 1).

A reply of the card that no entry waits for (R119, R127, R128, R130): outside READY and WAKING every reply is
discarded, and so is one of a resting tag; any other is captured as UNEXPECTED_REPLY, with its tag when that is
0..3, and so are a reply of unknown kind, on a resting tag as well (log entry 19), and a DONE whose payload is not
of its transaction's kind (log entry 20); these two are the model's reading. -/
def Obligations.CardAnswers : Prop :=
  (∀ (s : State) (k : Nat) (e : Entry), (s.card.state = .ready ∨ s.card.state = .waking) →
    s.card.entry k = some e → e.busy + 1 < 16 →
    exec (.cardBusyReply k) s = .next (s.setCard { s.card with
      outstanding := s.card.outstanding.map fun x =>
        if x.tag = k then
          { x with busy := e.busy + 1, timeout := none, resend := some (s.localCount + 20) }
        else x })) ∧
  (∀ (s : State) (k : Nat) (e : Entry), s.card.entry k = some e →
    (s.card.state = .ready → s.reached e.resend = true →
      exec (.resendExpiry k) s = .next ((s.setCard { s.card with
        outstanding := s.card.outstanding.map fun x =>
          if x.tag = k then
            { x with sendCount := s.localCount, timeout := some (s.localCount + 400), resend := none }
          else x }).setSent (s.sent ++ [.cardSend k e.tx]))) ∧
    ((s.card.state ≠ .ready ∨ s.reached e.resend = false) →
      exec (.resendExpiry k) s = .next s) ∧
    (s.reached e.timeout = false → exec (.transactionTimeout k) s = .next s)) ∧
  (∀ (s : State) (k : Nat), s.card.entry k = none →
    exec (.resendExpiry k) s = .next s ∧ exec (.transactionTimeout k) s = .next s) ∧
  (∀ (s : State) (e : Entry) (c : Instr) (f : CardFault) (l : Agent) (n : Nat) (m : List Byte)
      (r : Request) (rest : List Request),
    (c = .cardBusyReply e.tag ∧ f = .cardBusy ∧ 15 ≤ e.busy ∧
        (s.card.state = .ready ∨ s.card.state = .waking) ∨
      c = .transactionTimeout e.tag ∧ f = .cardTimeout ∧ s.reached e.timeout = true) →
    s.card.outstanding = [e] → s.card.waiting = [] → e.tx = .verify l n m true →
    (s.link l).queue = r :: rest → s.power.state = .active →
    ∃ t, exec c s = .next t ∧ t.card.outstanding = [] ∧
      t.card.failures = (if s.card.failures + 1 < 3 then s.card.failures + 1 else 3) ∧
      t.card.state = (if s.card.failures + 1 < 3 then s.card.state else .faulted) ∧
      t.card.capture = some (match s.card.capture with
        | none => ⟨f, some e.tag, some (.verify l n, e.stale), s.localCount, false⟩
        | some x => { x with lost := true }) ∧
      (∀ k : Fin 4, t.card.resting.get k =
        if f = .cardTimeout ∧ k.val = e.tag then some (s.localCount + 400)
        else s.card.resting.get k) ∧
      t.access.tiers = s.access.tiers ∧
      Answers s t l r.tag rest (if f = .cardBusy then .cardBusy else .cardTimeout) []) ∧
  (∀ (s : State) (e : Entry) (c : Instr) (reason : Option Nat) (l : Agent) (n : Nat) (m : List Byte)
      (r : Request) (rest : List Request),
    (c = .cardDone e.tag (.verdict false) ∧ reason = none ∨
      ∃ x, c = .cardReject e.tag x ∧ reason = some x) →
    (s.card.state = .ready ∨ s.card.state = .waking) →
    s.card.outstanding = [e] → s.card.waiting = [] → e.tx = .verify l n m true →
    (s.link l).queue = r :: rest → NoStartDue s →
    ∃ t, exec c s = .next t ∧ t.card.outstanding = [] ∧ t.card.failures = 0 ∧
      t.access = s.access ∧
      Answers s t l r.tag rest .invalid (match reason with
        | some x => u8 x
        | none => [])) ∧
  (∀ (s : State) (k : Fin 4),
    (s.reached (s.card.resting.get k) = true →
      ∃ t, exec (.tagRestEnd k) s = .next t ∧ t.card.resting.get k = none ∧
        ∀ j, j ≠ k → t.card.resting.get j = s.card.resting.get j) ∧
    (s.reached (s.card.resting.get k) = false → exec (.tagRestEnd k) s = .next s)) ∧
  (∀ (s : State) (k n : Nat) (d : DonePayload) (c : Instr),
    c = .cardDone k d ∨ c = .cardBusyReply k ∨ c = .cardReject k n ∨ c = .cardReplyUnknownKind k →
    (s.card.state ≠ .ready → s.card.state ≠ .waking → exec c s = .next s) ∧
    (c ≠ .cardReplyUnknownKind k → s.card.entry k = none →
      (∃ t : Fin 4, t.val = k ∧ s.card.resting.get t ≠ none) → exec c s = .next s) ∧
    ((s.card.state = .ready ∨ s.card.state = .waking) →
      (c = .cardReplyUnknownKind k ∨
        (s.card.entry k = none ∧ ∀ t : Fin 4, t.val = k → s.card.resting.get t = none) ∨
        (c = .cardDone k d ∧ ∃ e, s.card.entry k = some e ∧ doneOutcome e.tx d = none)) →
      ∃ t, exec c s = .next t ∧ Only [.card, .agents, .leadNotices] s t ∧
        t.card = { s.card with capture := some (match s.card.capture with
          | none => ⟨.unexpectedReply, if k < 4 then some k else none, none, s.localCount, false⟩
          | some x => { x with lost := true }) }))

/-- Dispatch and the card's clock (R123, R139). The transaction at the head of the waiting queue is sent with the
lowest tag that is neither outstanding nor resting while the card is READY. In standby the clock of a READY card
with nothing to do is stopped, and the power state is STANDBY. In a settled state neither command changes
anything. -/
def Obligations.DispatchAndClock : Prop :=
  (∀ (s : State) (tx : Transaction) (more : List Transaction) (k : Fin 4),
    s.card.state = .ready → s.card.waiting = tx :: more → freeTag s.card = some k →
    s.gatesDue = [] → s.claimQueue = [] → NoStartDue s → s.power.state ≠ .quiescing →
    ∃ t, exec .transactionDispatch s = .next t ∧
      (⟨k.val, tx, s.localCount, some (s.localCount + 400), none, 0, false⟩ : Entry) ∈
        t.card.outstanding ∧ Sent.cardSend k.val tx ∈ t.sent ∧
      (∃ sent, more = sent ++ t.card.waiting)) ∧
  (∀ (c : CardLink) (k : Fin 4), freeTag c = some k ↔
    Least (fun n => ∃ j : Fin 4, j.val = n ∧ c.resting.get j = none ∧
      ∀ e ∈ c.outstanding, e.tag ≠ n) k.val) ∧
  (∀ s : State, (s.power.state = .standby ∨ s.power.state = .service) → s.card.state = .ready →
    s.card.outstanding = [] → s.card.waiting = [] →
    (∀ p : PathNo, 2 ≤ p.val → (s.path p).snapshot = none) → NoStartDue s →
    ∃ t, exec .cardClockStop s = .next t ∧ t.card.state = .idleClock ∧
      Sent.cardClockStop ∈ t.sent ∧ t.power.state = .standby) ∧
  (∀ s : State, Settled s →
    exec .transactionDispatch s = .next s ∧ exec .cardClockStop s = .next s)

/-- Key messages (R135, R136): how a payload spells one; a malformed one, one whose version the slot of its phase
holds or loads already, and one on a path in a state that takes none change nothing, a payload that is not of 20
bytes counting as malformed (log entry 21: the model's reading); one whose requirement is
not met leads to no UNWRAP; any other leads to an UNWRAP of its phase, version, requirement and wrapped key while
the queue has room, and the slot is loading its version.

The end of an UNWRAP (R138). An UNWRAP that is not stale and has its key makes the slot of its phase LOADED
with its version and key; without a key the slot loads nothing more and keeps what it held; a stale one gives no
key, and takes its version out of the slot only when the slot still waits for it. A DONE with a key does so
unless the gate that follows empties the slots. -/
def Obligations.KeyMessages : Prop :=
  (∀ (b kind v : Nat) (w : List Byte), b < 256 → kind < 256 → v < 65536 → w.length = 16 →
    keyMessageOf (u8 b ++ u8 kind ++ u16 v ++ w) =
      if b % 128 < 16 ∧ kind = 1 ∧ v ≤ 255 then
        some ⟨if b < 128 then .a else .b, b % 16, .tier v, w⟩
      else if b % 128 < 16 ∧ kind = 2 then
        some ⟨if b < 128 then .a else .b, b % 16, .event v, w⟩
      else none) ∧
  (∀ pl : List Byte, pl.length ≠ 20 → keyMessageOf pl = none) ∧
  (∀ (p : PathNo) (st : PathState), takesKeys p st = true ↔
    (∀ r, st ≠ .denied r) ∧
      (2 ≤ p.val ∨ st = .acquiring ∨ st = .presenting ∨ ∃ r, st = .blocked r)) ∧
  (∀ (s : State) (i : InputNo) (p : PathNo) (v : Service) (kt : Nat) (mark : Scrambling)
      (pl : List Byte),
    Settled s → (s.input i).state = .locked → (s.input i).holders = [p] →
    (s.path p).snapshot = some v → v.keyTag = some kt → kt ≠ 8001 →
    (∀ c ∈ v.components, c.tag ≠ kt) →
    let c : Instr := .transportPacket i ⟨kt, mark, pl⟩
    ((keyMessageOf pl = none ∨ takesKeys p (s.path p).state = false) → exec c s = .next s) ∧
    (∀ m, keyMessageOf pl = some m → takesKeys p (s.path p).state = true →
      let k := (s.path p).slot m.phase
      let tx : Transaction := .unwrap p m.phase m.version m.req m.wrapped
      ((k.loaded.map (·.version) = some m.version ∨ k.pending = some m.version) →
        exec c s = .next s) ∧
      (k.loaded.map (·.version) ≠ some m.version → k.pending ≠ some m.version →
        (∀ r, requirementTest s v.id m.req = some r →
          ∃ t, exec c s = .next t ∧ t.card.waiting.length + t.card.outstanding.length ≤
            s.card.waiting.length + s.card.outstanding.length) ∧
        (requirementTest s v.id m.req = none → s.card.waiting.length < 8 → s.card.state ≠ .idleClock →
          ∃ t, exec c s = .next t ∧
            ((t.path p).slot m.phase) = { k with pending := some m.version } ∧
            (tx ∈ t.card.waiting ∨ ∃ e ∈ t.card.outstanding, e.tx = tx ∧ e.stale = false))))) ∧
  (∀ (s : State) (p : PathNo) (ph : Phase) (ver : Nat) (stale : Bool) (key : Option Key),
    let k := (s.path p).slot ph
    let t := endUnwrap p ph ver stale key s
    (stale = false → ∀ x, key = some x → (t.path p).slot ph = ⟨some ⟨ver, x⟩, none⟩) ∧
    (stale = false → key = none → (t.path p).slot ph = { k with pending := none }) ∧
    (stale = true → k.pending = some ver → (t.path p).slot ph = { k with pending := none }) ∧
    (stale = true → k.pending ≠ some ver → (t.path p).slot ph = k) ∧
    (∀ q h, (q ≠ p ∨ h ≠ ph) → (t.path q).slot h = (s.path q).slot h) ∧
    Only [.paths, .gatesDue] s t) ∧
  (∀ (s : State) (n : Nat) (e : Entry) (p : PathNo) (ph : Phase) (ver : Nat) (q : Requirement)
      (w : List Byte) (x : Key),
    (s.card.state = .ready ∨ s.card.state = .waking) → s.card.entry n = some e →
    e.tx = .unwrap p ph ver q w → e.stale = false → s.power.state = .active → NoStartDue s →
    s.claimQueue = [] →
    ∃ t, exec (.cardDone n (.key x)) s = .next t ∧ t.card.failures = 0 ∧
      ((t.path p).slot ph = ⟨some ⟨ver, x⟩, none⟩ ∨
        (((∃ r, (t.path p).state = .denied r) ∨ (t.path p).state = .stalled .inputTaken) ∧
          (t.path p).slotA = Slot.empty ∧ (t.path p).slotB = Slot.empty)))

/-! ## Parental limits -/

/-- The parental verdict of a view path (R149): SERVICE, RATING, TIME_UNKNOWN, WINDOW, ALLOWANCE, the first that
applies; an unlock overrides the first two. -/
def Obligations.ParentalVerdict : Prop :=
  ∀ (s : State) (x : Path) (v : Service),
    let p := s.parental.activeProfile
    let sum := p.allowance + (s.parental.meters.get s.parental.active).extension
    let unlocked : Prop := ∃ u, x.unlock = some u ∧ u.service = v.id ∧
      u.event = x.currentEvent.map (·.id)
    let rating : Nat := match x.currentEvent with
      | none => v.rating
      | some c => (match s.guide.event v.id c.id with
        | some e => e.rating.getD v.rating
        | none => v.rating)
    let m : Int := ((s.netSec : Int) + 60 * s.time.zone) % 86400 / 60
    let inside : Prop :=
      (p.winStart < p.winStop ∧ (p.winStart : Int) ≤ m ∧ m < p.winStop) ∨
      (p.winStop < p.winStart ∧ ((p.winStart : Int) ≤ m ∨ m < p.winStop))
    let one : Prop := v.id ∈ p.blocked ∧ ¬ unlocked
    let two : Prop := p.ceiling < rating ∧ ¬ unlocked
    let three : Prop := p.winStart ≠ p.winStop ∧ s.time.state = .unset
    let four : Prop := p.winStart ≠ p.winStop ∧ s.time.state ≠ .unset ∧ ¬ inside
    let five : Prop := sum < 1440 ∧ sum ≤ (s.parental.meters.get s.parental.active).used
    (one → parentalVerdict s x v = some .service) ∧
    (¬ one → two → parentalVerdict s x v = some .rating) ∧
    (¬ one → ¬ two → three → parentalVerdict s x v = some .timeUnknown) ∧
    (¬ one → ¬ two → ¬ three → four → parentalVerdict s x v = some .window) ∧
    (¬ one → ¬ two → ¬ three → ¬ four → five → parentalVerdict s x v = some .allowance) ∧
    (¬ one → ¬ two → ¬ three → ¬ four → ¬ five → parentalVerdict s x v = none)

/-- PROFILE SELECT (R144): with a PIN accepted the profile becomes active and, with the start flag, the start
profile; the view paths drop their unlocks; the minutes under way count toward the old profile alone (R151). A
PIN that fails its check answers what the check gives; the master PIN alone is accepted with the start flag.

The PIN check (R142): PIN_LOCKED with the ms left while a lockout runs, and nothing changes; a PIN accepted
sets the counter to 0; a wrong one raises it and leaves 3 minus the counter tries, and the third in a row starts
a lockout of 900,000 ms. A change marks the image dirty. -/
def Obligations.ProfileSelected : Prop :=
  (∀ (s : State) (a : Agent) (n : ProfileNo) (d1 d2 d3 d4 tag : Nat) (start : Bool) (body : List Byte)
      (rest : List Request),
    Taken s a .profileSelect tag body rest →
    fields [1, 1, 1, 1, 1, 1] body = some [n.val, d1, d2, d3, d4, if start then 1 else 0] →
    d1 ≤ 9 → d2 ≤ 9 → d3 ≤ 9 → d4 ≤ 9 →
    ∀ (ans : PinAnswer) (u : State),
      pinCheck ⟨d1, d2, d3, d4⟩ (if start then [s.parental.masterPin]
        else [(s.parental.profile n).pin, s.parental.masterPin]) s = (ans, u) →
    (∀ st b, ans.refusal = some (st, b) →
      exec (.profileSelect a) s = .next (answeredState u a tag rest st b)) ∧
    (ans = .passed →
      ∃ t b, exec (.profileSelect a) s = .next t ∧ Answers s t a tag rest .ok b ∧
        (s.power.state = .active → b = selectBody t) ∧
        t.parental.active = n ∧
        t.parental.startProfile = (if start then n else s.parental.startProfile) ∧
        t.parental.attempts = 0 ∧ t.parental.profiles = s.parental.profiles ∧
        (∀ p : PathNo, p.val < 2 → (t.path p).unlock = none) ∧
        (∀ l, s.parental.run = some l → n ≠ s.parental.active →
          s.parental.activeMeter.used < 1440 →
          s.parental.activeMeter.partialMs + (s.localCount - l) < 60000 →
          t.parental.meters.get s.parental.active = { s.parental.activeMeter with
            partialMs := s.parental.activeMeter.partialMs + (s.localCount - l) }))) ∧
  (∀ (s : State) (given : Pin) (accepted : List Pin),
    let u := s.parental
    let r := pinCheck given accepted s
    (∀ e, u.lockout = some e → r = (.locked (e - s.localCount), s)) ∧
    (u.lockout = none → given ∈ accepted → u.attempts = 0 → r = (.passed, s)) ∧
    (u.lockout = none → given ∈ accepted → 0 < u.attempts →
      r.1 = .passed ∧ r.2.parental = { u with attempts := 0 }) ∧
    (u.lockout = none → given ∉ accepted → u.attempts < 2 →
      r.1 = .wrong (2 - u.attempts) ∧ r.2.parental = { u with attempts := u.attempts + 1 }) ∧
    (u.lockout = none → given ∉ accepted → 2 ≤ u.attempts →
      r.1 = .wrong 0 ∧
        r.2.parental = { u with attempts := 0, lockout := some (s.localCount + 900000) }) ∧
    (r.2.parental ≠ u → s.power.state ≠ .quiescing → Sect.parental ∈ r.2.store.dirty) ∧
    Only [.parental, .store, .sent, .agents, .leadNotices] s r.2)

/-- PROFILE WRITE (R145): with the master PIN the profile takes every field, the allowance limited to 1440 and
the window to 1439, and its extension is lowered to what the allowance leaves; OK_CLAMPED when a value was
limited; a body out of range is refused BAD_FIELD. UNLOCK gives a view path the scope of its service and current
event; it is refused ASLEEP outside ACTIVE and NO_SERVICE for an IDLE path (R146). EXTEND raises the extension up
to what the allowance leaves (R147). A PIN that fails its check answers what the check gives. That the reply
of PROFILE WRITE gives back the PIN, and the coding of NO_EVENT in the reply of UNLOCK, are the model's choice
(log entry 10). -/
def Obligations.ParentalRequests : Prop :=
  (∀ (s : State) (a : Agent) (tag : Nat) (body : List Byte) (rest : List Request),
    Taken s a .profileWrite tag body rest →
    (profileWriteOf body = none →
      exec (.profileWrite a) s = .next (answeredState s a tag rest .badField [])) ∧
    (∀ (w : ProfileWrite) (ans : PinAnswer) (u : State), profileWriteOf body = some w →
      pinCheck w.master [s.parental.masterPin] s = (ans, u) →
      (∀ st b, ans.refusal = some (st, b) →
        exec (.profileWrite a) s = .next (answeredState u a tag rest st b)) ∧
      (ans = .passed →
        let k : Profile := { w.profile with
          allowance := if 1440 < w.profile.allowance then 1440 else w.profile.allowance
          winStart := if 1439 < w.profile.winStart then 1439 else w.profile.winStart
          winStop := if 1439 < w.profile.winStop then 1439 else w.profile.winStop }
        ∃ t, exec (.profileWrite a) s = .next t ∧
          Answers s t a tag rest (if k = w.profile then .ok else .okClamped)
            (writtenBody w.slot t) ∧
          t.parental.profiles.get w.slot = k ∧
          (∀ j, j ≠ w.slot → t.parental.profiles.get j = s.parental.profiles.get j) ∧
          (t.parental.meters.get (profileOfSlot w.slot)).extension =
            min (s.parental.meters.get (profileOfSlot w.slot)).extension (1440 - k.allowance) ∧
          t.parental.active = s.parental.active ∧ t.parental.masterPin = s.parental.masterPin))) ∧
  (∀ (s : State) (a : Agent) (p : PathNo) (d1 d2 d3 d4 tag : Nat) (body : List Byte)
      (rest : List Request),
    Taken s a .unlock tag body rest → fields [1, 1, 1, 1, 1] body = some [p.val, d1, d2, d3, d4] →
    p.val < 2 → d1 ≤ 9 → d2 ≤ 9 → d3 ≤ 9 → d4 ≤ 9 →
    (s.power.state ≠ .active → exec (.unlock a) s = .next (answeredState s a tag rest .asleep [])) ∧
    (s.power.state = .active → (s.path p).snapshot = none →
      exec (.unlock a) s = .next (answeredState s a tag rest .noService [])) ∧
    (s.power.state = .active → ∀ v, (s.path p).snapshot = some v →
      ∀ (ans : PinAnswer) (u : State),
        pinCheck ⟨d1, d2, d3, d4⟩ [s.parental.masterPin] s = (ans, u) →
      (∀ st b, ans.refusal = some (st, b) →
        exec (.unlock a) s = .next (answeredState u a tag rest st b)) ∧
      (ans = .passed → NoStartDue s →
        let scope : Unlock := ⟨v.id, (s.path p).currentEvent.map (·.id)⟩
        ∃ t, exec (.unlock a) s = .next t ∧
          Answers s t a tag rest .ok (unlockBody p scope t) ∧ (t.path p).unlock = some scope))) ∧
  (∀ (s : State) (a : Agent) (n d1 d2 d3 d4 tag : Nat) (body : List Byte) (rest : List Request),
    Taken s a .extend tag body rest → fields [2, 1, 1, 1, 1] body = some [n, d1, d2, d3, d4] →
    d1 ≤ 9 → d2 ≤ 9 → d3 ≤ 9 → d4 ≤ 9 →
    ((n = 0 ∨ 1440 < n) → exec (.extend a) s = .next (answeredState s a tag rest .badField [])) ∧
    (1 ≤ n → n ≤ 1440 →
      (s.power.state ≠ .active →
        exec (.extend a) s = .next (answeredState s a tag rest .asleep [])) ∧
      (s.power.state = .active → ∀ (ans : PinAnswer) (u : State),
        pinCheck ⟨d1, d2, d3, d4⟩ [s.parental.masterPin] s = (ans, u) →
        (∀ st b, ans.refusal = some (st, b) →
          exec (.extend a) s = .next (answeredState u a tag rest st b)) ∧
        (ans = .passed →
          let room := 1440 - s.parental.activeProfile.allowance
          let sum := s.parental.activeMeter.extension + n
          ∃ t, exec (.extend a) s = .next t ∧
            Answers s t a tag rest (if room < sum then .okClamped else .ok) (extendBody t) ∧
            t.parental.activeMeter.extension = (if room < sum then room else sum) ∧
            t.parental.active = s.parental.active ∧
            t.parental.activeProfile = s.parental.activeProfile))))

/-- The expiries of the Parental Unit. The lockout expiry ends the lockout (R143). The minute expiry adds a used
minute, with partial 0 and the next one 60,000 later unless 1440 are used, the run counting from the present
count on (log entry 22: the model's reading); at an allowance plus extension below
1440 that is then reached no view path stays PRESENTING (R150). The edge expiry judges the window side and sets
the next edge (R152). The rollover expiry, on a day after the last rollover day, clears every meter and sets the
next (R154). Before its count each does nothing (log entry 1). -/
def Obligations.ParentalExpiries : Prop :=
  (∀ s : State, s.reached s.parental.lockout = true →
    ∃ t, exec .lockoutExpiry s = .next t ∧
      Only [.parental, .store, .sent, .agents, .leadNotices] s t ∧
      t.parental = { s.parental with lockout := none }) ∧
  (∀ s : State, s.reached s.parental.minuteExpiry = true → Settled s →
    let m := s.parental.activeMeter
    let sum := s.parental.allowed s.parental.active
    (m.used + 1 ≠ sum ∨ 1440 ≤ sum →
      ∃ t, exec .minuteExpiry s = .next t ∧ t.paths = s.paths ∧
        t.parental.activeMeter = { m with used := m.used + 1, partialMs := 0 } ∧
        t.parental.run = some s.localCount ∧
        t.parental.minuteExpiry =
          (if m.used + 1 = 1440 then none else some (s.localCount + 60000))) ∧
    (m.used + 1 = sum → sum < 1440 →
      ∃ t, exec .minuteExpiry s = .next t ∧
        t.parental.activeMeter = { m with used := m.used + 1, partialMs := 0 } ∧
        ∀ p : PathNo, p.val < 2 → (s.path p).snapshot ≠ none → (t.path p).state ≠ .presenting)) ∧
  (∀ s : State, s.reached s.parental.edgeExpiry = true →
    let p := s.parental.activeProfile
    ∃ t, exec .edgeExpiry s = .next t ∧
      (p.winStart = p.winStop → t.parental.side = .none ∧ t.parental.edgeExpiry = none) ∧
      (p.winStart ≠ p.winStop → s.time.state = .unset →
        t.parental.side = .unknown ∧ t.parental.edgeExpiry = none) ∧
      (p.winStart ≠ p.winStop → s.time.state ≠ .unset →
        (t.parental.side = .inside ∨ t.parental.side = .outside) ∧
        (t.parental.side = .inside ↔ insideWindow p.winStart p.winStop s.minuteOfDay = true) ∧
        ∃ x : Int, s.localSec < x ∧ t.parental.edgeExpiry = some (s.expiryOfSec (x - 60 * s.time.zone)) ∧
          (p.winStart ≤ 1439 → p.winStop ≤ 1439 →
            x % 60 = 0 ∧ (x % 86400 / 60 = p.winStart ∨ x % 86400 / 60 = p.winStop) ∧
            ∀ y : Int, s.localSec < y → y % 60 = 0 →
              (y % 86400 / 60 = p.winStart ∨ y % 86400 / 60 = p.winStop) → x ≤ y))) ∧
  (∀ (s : State) (d : Int), s.reached s.parental.rolloverExpiry = true → s.timeKnown = true →
    s.parental.lastRollover = some d → d < s.localDay →
    ∃ t, exec .rolloverExpiry s = .next t ∧ t.parental.lastRollover = some s.localDay ∧
      (∀ n, t.parental.meters.get n = ⟨0, 0, 0⟩) ∧
      t.parental.rolloverExpiry =
        some (s.expiryOfSec ((s.localDay + 1) * 86400 - 60 * s.time.zone))) ∧
  (∀ s : State,
    (s.reached s.parental.lockout = false → exec .lockoutExpiry s = .next s) ∧
    (s.reached s.parental.minuteExpiry = false → exec .minuteExpiry s = .next s) ∧
    (s.reached s.parental.edgeExpiry = false → exec .edgeExpiry s = .next s) ∧
    (s.reached s.parental.rolloverExpiry = false → exec .rolloverExpiry s = .next s))

/-! ## Recording jobs -/

/-- The conflict check passes just when at every second of the job's span the job and the unfinished jobs that
occupy that second number 4 or fewer, one job left out (R159). -/
def Obligations.ConflictCheck : Prop :=
  ∀ (jobs : List Job) (without : Nat) (a b : Int),
    conflictFree jobs without a b = true ↔
      ∀ t : Int, a ≤ t → t < b →
        jobs.countP (fun j => (decide (j.state = .scheduled ∨ j.state = .active) && j.id != without) &&
          decide (j.effStart ≤ t ∧ t < j.effStop)) + 1 ≤ 4

/-- JOB ADD (R158, R159): its refusals in their order, the PIN check with the buy flag alone; an accepted job enters
the list in its place, SCHEDULED, with clamped pads, a start expiry and the first id free after the last job id, the
first finished record dropped from a full list. One whose effective start is reached starts at once: without an IDLE
record path it is start due, and otherwise it is ACTIVE on the lowest, or FAILED where its buy fails (R161, R162). The
start and end of a TIME trigger take four bytes in the body (log entry 10: the model's choice). The reply carries id, times, state and a record dropped. JOB REMOVE takes a record out, or ends
an ACTIVE job FAILED(CANCELLED) with its path IDLE(JOB_ENDED), and is refused NO_JOB for an id no record holds (R160);
that its reply carries the state without the reason is the model's choice (log entry 10), and that a right PIN stays
counted as right when a later order refuses is the model's reading (log entry 31). -/
def Obligations.JobRequests : Prop :=
  (∀ (s : State) (a : Agent) (tag : Nat) (body : List Byte) (rest : List Request),
    Taken s a .jobAdd tag body rest →
    (jobRequestOf body = none → exec (.jobAdd a) s = .next (answeredState s a tag rest .badField [])) ∧
    (∀ r : JobRequest, jobRequestOf body = some r →
      (s.time.state = .unset →
        exec (.jobAdd a) s = .next (answeredState s a tag rest .timeUnknown [])) ∧
      (s.time.state ≠ .unset → s.lineup.service r.service = none →
        exec (.jobAdd a) s = .next (answeredState s a tag rest .noService [])) ∧
      (s.time.state ≠ .unset → ∀ v, s.lineup.service r.service = some v →
        (∀ e, r.trigger = .event e → s.guide.event r.service e = none →
          exec (.jobAdd a) s = .next (answeredState s a tag rest .noEvent [])) ∧
        (∀ (x y : NetSec) (price : Option Nat),
          (r.trigger = .time x y ∧ price = none ∨
            (∃ e g, r.trigger = .event e ∧ s.guide.event r.service e = some g ∧ x = g.start ∧
              y = g.start + g.duration ∧ price = some g.price)) →
          let before := if 1800 < r.padBefore then 1800 else r.padBefore
          let after := if 1800 < r.padAfter then 1800 else r.padAfter
          let es : Int := (x : Int) - before
          let ee : Int := (y : Int) + after
          (y ≤ x → exec (.jobAdd a) s = .next (answeredState s a tag rest .badField [])) ∧
          (x < y → y + after ≤ s.netSec →
            exec (.jobAdd a) s = .next (answeredState s a tag rest .tooLate [])) ∧
          (x < y → s.netSec < y + after →
            (28800 < ee - es →
              exec (.jobAdd a) s = .next (answeredState s a tag rest .tooLong [])) ∧
            (ee - es ≤ 28800 →
              (conflictFree s.jobs.list 0 es ee = false →
                exec (.jobAdd a) s = .next (answeredState s a tag rest .conflict [])) ∧
              (conflictFree s.jobs.list 0 es ee = true →
                ∀ (ans : PinAnswer) (u : State),
                  (if r.buy then pinCheck r.pin [s.parental.masterPin] s else (.passed, s)) = (ans, u) →
                  (∀ st b, ans.refusal = some (st, b) →
                    exec (.jobAdd a) s = .next (answeredState u a tag rest st b)) ∧
                  (ans = .passed →
                    (r.buy = true → (v.access ≠ .event ∨ price = some 0) →
                      exec (.jobAdd a) s = .next (answeredState u a tag rest .notForSale [])) ∧
                    ((r.buy = true → v.access = .event ∧ ∃ c, price = some c ∧ 0 < c) →
                      (32 ≤ s.jobs.list.length →
                        (∀ j ∈ s.jobs.list, j.state = .scheduled ∨ j.state = .active) →
                        exec (.jobAdd a) s = .next (answeredState u a tag rest .listFull [])) ∧
                      ((s.jobs.list.length < 32 ∨ s.jobs.list.length = 32 ∧
                          ∃ j ∈ s.jobs.list, j.state ≠ .scheduled ∧ j.state ≠ .active) →
                        let room := roomFor s.jobs.list
                        let id := nextJobId s.jobs.lastId room.1
                        let k : Job := ⟨id, r.service,
                          (match r.trigger with
                            | .time .. => .time
                            | .event e => .event e),
                          x, y, before, after, r.buy, .scheduled, none, 0, none, false,
                          some (s.expiryOfSec es), none, none⟩
                        let status : Status :=
                          if 1800 < r.padBefore ∨ 1800 < r.padAfter then .okClamped else .ok
                        let body (state : List Byte) : List Byte :=
                          u8 id ++ s64 es ++ s64 ee ++ state ++ optBytes 1 room.2
                        (Settled s → (s.netSec : Int) < es →
                          ∃ t, exec (.jobAdd a) s = .next t ∧ t.jobs = ⟨placeJob k room.1, id⟩ ∧
                            Answers s t a tag rest status (body (u8 1 ++ u8 0 ++ u8 0))) ∧
                        (Settled s → TablesOk s → es ≤ (s.netSec : Int) → idleRecordPath s = none →
                          ∃ t, exec (.jobAdd a) s = .next t ∧ t.jobs.lastId = id ∧
                            t.job id = some { k with
                              startDue := true, startExpiry := none, endExpiry := some (s.expiryOfSec ee) } ∧
                            Answers s t a tag rest status (body (u8 1 ++ u8 0 ++ u8 0))) ∧
                        (NoStartDue s → TablesOk s → HoldersOk s → s.power.state = .active →
                          es ≤ (s.netSec : Int) → ∀ p, idleRecordPath s = some p →
                          ∃ t, exec (.jobAdd a) s = .next t ∧ t.jobs.lastId = id ∧
                            match buyOutcome s k with
                            | (none, access) =>
                              t.access = access ∧ (t.path p).job = some id ∧
                              (t.path p).snapshot = some v ∧ (t.path p).heldInput ≠ none ∧
                              (∃ j, t.job id = some j ∧ j.state = .active ∧ j.path = some p ∧
                                j.actualStart = some s.netSec ∧
                                j.graceExpiry = some (s.localCount + 30000) ∧
                                j.endExpiry = some (s.expiryOfSec ee) ∧ j.startExpiry = none) ∧
                              Answers s t a tag rest status (body (u8 2 ++ u8 0 ++ u8 0))
                            | (some f, access) =>
                              t.access = access ∧
                              t.job id = some { k with state := .failed f, startExpiry := none } ∧
                              (t.path p).state = .idle .jobEnded ∧ (t.path p).snapshot = none ∧
                              (t.path p).heldInput = none ∧ (t.path p).job = none ∧
                              Answers s t a tag rest status
                                (body (u8 4 ++ u8 1 ++ u8 (if f = .noCredit then 5 else 6)))))))))))))) ∧
  (∀ (last : Nat) (l : List Job), l.length < 255 → ∃ m,
    Least (fun k => ∀ j ∈ l, j.id ≠ (last + k) % 255 + 1) m ∧
      nextJobId last l = (last + m) % 255 + 1) ∧
  (∀ l : List Job, (l.length < 32 → roomFor l = (l, none)) ∧
    (32 ≤ l.length → ∀ j x y, l = x ++ j :: y → (∀ k ∈ x, k.state = .scheduled ∨ k.state = .active) →
      j.state ≠ .scheduled → j.state ≠ .active →
      roomFor l = (l.filter fun k => k.id != j.id, some j.id))) ∧
  (∀ (s : State) (a : Agent) (n tag : Nat) (body : List Byte) (rest : List Request),
    Taken s a .jobRemove tag body rest → fields [1] body = some [n] →
    (n = 0 → exec (.jobRemove a) s = .next (answeredState s a tag rest .badField [])) ∧
    (1 ≤ n → s.job n = none →
      exec (.jobRemove a) s = .next (answeredState s a tag rest .noJob [])) ∧
    (1 ≤ n → ∀ j, s.job n = some j →
      (j.state ≠ .active → Settled s →
        ∃ t, exec (.jobRemove a) s = .next t ∧ Answers s t a tag rest .ok (u8 j.state.code) ∧
          t.jobs = { s.jobs with list := s.jobs.list.filter fun k => k.id != n } ∧
          t.paths = s.paths) ∧
      (∀ p, j.state = .active → j.path = some p → (s.path p).snapshot ≠ none → NoStartDue s →
        ∃ t, exec (.jobRemove a) s = .next t ∧ Answers s t a tag rest .ok (u8 2) ∧
          t.job n = some { j with
            state := .failed .cancelled, path := none, startDue := false, startExpiry := none,
            endExpiry := none, graceExpiry := none } ∧
          (t.path p).state = .idle .jobEnded ∧ (t.path p).snapshot = none ∧
          (t.path p).heldInput = none)))

/-- The start of a job (R161) on its start expiry, or of a start due job on a record path that is IDLE, while network
time is known (R157: in UNSET no job has an expiry): the lowest-numbered IDLE record path takes the job, the service's
present record and the lookup, and holds an input of the service's carrier; the job is ACTIVE there, with its actual
start, a grace expiry 30,000 ahead and its end expiry. With the buy flag its event is bought by `buyOutcome`; a buy
that fails for credit or list room makes the job FAILED and undoes the path's set-up (R106, R162). Without an IDLE
record path the job becomes start due; without its service it is FAILED. Before its count, and for another id, nothing
happens (log entry 1).

The end of a job. At its end expiry an ACTIVE job is COMPLETE and its path IDLE(JOB_ENDED) with its input
released, and a start due one is MISSED (R165, R161). At its grace expiry a job whose path is DENIED is FAILED
with the path's reason and its path is IDLE(JOB_ENDED), and otherwise the grace is over and nothing else changes
(R163). Before their counts neither does anything (log entry 1). -/
def Obligations.JobStartsAndEnds : Prop :=
  (∀ (s : State) (id : Nat) (j : Job) (v : Service) (p : PathNo) (c : Instr),
    (c = .jobStart id ∧ s.reached j.startExpiry = true ∧ j.startDue = false ∨
      c = .startDueJobStart id ∧ j.startDue = true ∧ s.claimQueue = []) →
    s.time.state ≠ .unset → s.job id = some j → j.state = .scheduled →
    s.lineup.service j.service = some v → idleRecordPath s = some p →
    HoldersOk s → TablesOk s → s.power.state = .active →
    (∀ k ∈ s.jobs.list, k.startDue = true → k.id = id) →
    ∃ t, exec c s = .next t ∧ t.access = (buyOutcome s j).2 ∧
      ((buyOutcome s j).1 = none →
        (t.path p).job = some id ∧ (t.path p).snapshot = some v ∧
        (t.path p).lastService = some v.id ∧ (t.path p).lastChange = s.localCount ∧
        (∃ i, (t.path p).heldInput = some i ∧ (t.input i).carrier = some v.carrier ∧
          p ∈ (t.input i).holders) ∧
        ∃ k, t.job id = some k ∧ k.state = .active ∧ k.path = some p ∧ k.startDue = false ∧
          k.startExpiry = none ∧ k.graceExpiry = some (s.localCount + 30000) ∧
          k.actualStart = some (match j.actualStart with
            | some x => x
            | none => s.netSec) ∧
          k.endExpiry = some (s.expiryOfSec k.effStop) ∧ k.start = j.start ∧ k.stop = j.stop) ∧
      ∀ r, (buyOutcome s j).1 = some r →
        t.job id = some { j with
          state := .failed r, path := none, startDue := false, startExpiry := none, endExpiry := none,
          graceExpiry := none } ∧
        (t.path p).state = .idle .jobEnded ∧ (t.path p).snapshot = none ∧ (t.path p).heldInput = none ∧
        (t.path p).job = none ∧ (t.path p).currentEvent = none ∧ (t.path p).boundary = none) ∧
  (∀ (s : State) (id : Nat) (j : Job), s.job id = some j → j.state = .scheduled →
    s.reached j.startExpiry = true → Settled s →
    (∀ v, s.lineup.service j.service = some v → idleRecordPath s = none →
      ∃ t, exec (.jobStart id) s = .next t ∧ Only [.jobs] s t ∧
        t.job id = some { j with
          startDue := true, startExpiry := none, endExpiry := some (s.expiryOfSec j.effStop) }) ∧
    (s.lineup.service j.service = none →
      ∃ t, exec (.jobStart id) s = .next t ∧
        t.job id = some { j with
          state := .failed .serviceRemoved, path := none, startDue := false, startExpiry := none,
          endExpiry := none, graceExpiry := none })) ∧
  (∀ (s : State) (id : Nat), (∀ j, s.job id = some j → s.reached j.startExpiry = false) →
    exec (.jobStart id) s = .next s) ∧
  (∀ (s : State) (id : Nat), Settled s → (∀ j, s.job id = some j → j.startDue = false) →
    exec (.startDueJobStart id) s = .next s) ∧
  (∀ (s : State) (id : Nat) (j : Job) (p : PathNo) (c : Instr) (st : JobState),
    s.job id = some j → j.id = id → j.path = some p → (s.path p).snapshot ≠ none → NoStartDue s →
    (c = .jobEndExpiry id ∧ s.reached j.endExpiry = true ∧ j.state = .active ∧ st = .complete ∨
      c = .graceExpiry id ∧ s.reached j.graceExpiry = true ∧
        ∃ r, (s.path p).state = .denied r ∧ st = .failed (.access r)) →
    ∃ t, exec c s = .next t ∧
      t.job id = some { j with
        state := st, path := none, startDue := false, startExpiry := none, endExpiry := none,
        graceExpiry := none } ∧
      (t.path p).state = .idle .jobEnded ∧ (t.path p).snapshot = none ∧
      (t.path p).heldInput = none ∧ (t.path p).job = none) ∧
  (∀ (s : State) (id : Nat) (j : Job), s.job id = some j → s.reached j.endExpiry = true →
    j.state = .scheduled → j.startDue = true → Settled s →
    ∃ t, exec (.jobEndExpiry id) s = .next t ∧ t.paths = s.paths ∧
      t.job id = some { j with
        state := .missed, path := none, startDue := false, startExpiry := none, endExpiry := none,
        graceExpiry := none }) ∧
  (∀ (s : State) (id : Nat) (j : Job), s.job id = some j → s.reached j.graceExpiry = true →
    (∀ p r, j.path = some p → (s.path p).state ≠ .denied r) → Settled s →
    ∃ t, exec (.graceExpiry id) s = .next t ∧ Only [.jobs] s t ∧
      t.job id = some { j with graceExpiry := none }) ∧
  (∀ (s : State) (id : Nat),
    ((∀ j, s.job id = some j → s.reached j.endExpiry = false) →
      exec (.jobEndExpiry id) s = .next s) ∧
    ((∀ j, s.job id = some j → s.reached j.graceExpiry = false) →
      exec (.graceExpiry id) s = .next s))

/-- The re-read of an event-triggered job (R166), of the job alone. SCHEDULED: without its event FAILED(EVENT_GONE);
with the times it holds unchanged; with new times MISSED when its effective end has passed, FAILED(CONFLICT) with
its old times when the conflict check fails, and otherwise placed again with the new times, waiting for its new
effective start, or started at once when that is reached. ACTIVE: without its event unchanged; with new times they
are taken with a new end expiry, the start alone when the check fails, and a new effective end that has passed ends
it COMPLETE. A TIME job and a finished one re-read nothing. GUIDE DROP of its event fails a SCHEDULED job and leaves
an ACTIVE one its times; GUIDE LOAD of its event with times ahead moves a SCHEDULED one. -/
def Obligations.EventReread : Prop :=
  (∀ (s : State) (id : Nat) (j : Job), s.job id = some j → TablesOk s →
    let t := rereadJob id s
    let finished (k : Job) (st : JobState) : Job := { k with
      state := st, path := none, startDue := false, startExpiry := none, endExpiry := none,
      graceExpiry := none }
    (∀ i, i ≠ id → t.job i = s.job i) ∧
    ((j.trigger = .time ∨ (j.state ≠ .scheduled ∧ j.state ≠ .active)) → t = s) ∧
    (∀ eid, j.trigger = .event eid →
      (s.guide.event j.service eid = none →
        (j.state = .scheduled → t.job id = some (finished j (.failed .eventGone))) ∧
        (j.state = .active → t = s)) ∧
      (∀ e, s.guide.event j.service eid = some e →
        let m : Job := { j with start := e.start, stop := e.start + e.duration }
        let held : Prop := m.start = j.start ∧ m.stop = j.stop
        let free : Bool := conflictFree s.jobs.list id m.effStart m.effStop
        let past : Prop := s.time.state ≠ .unset ∧ m.effStop ≤ (s.netSec : Int)
        let due : Prop := s.time.state ≠ .unset ∧ m.effStart ≤ (s.netSec : Int)
        (held → j.state = .scheduled ∨ j.state = .active → t = s) ∧
        (¬ held → j.state = .scheduled →
          (past → t.job id = some (finished m .missed)) ∧
          (¬ past → free = false → t.job id = some (finished j (.failed .conflict))) ∧
          (¬ past → free = true → ¬ due →
            let k : Job := { m with
              startDue := false, endExpiry := none
              startExpiry := if s.time.state = .unset then none else some (s.expiryOfSec m.effStart) }
            t.jobs.list = placeJob k (s.jobs.list.filter fun i => i.id != id)) ∧
          (¬ past → free = true → due →
            (s.lineup.service j.service = none →
              t.job id = some (finished m (.failed .serviceRemoved))) ∧
            (∀ v, s.lineup.service j.service = some v →
              (idleRecordPath s = none → t.job id = some { m with
                startDue := true, startExpiry := none, endExpiry := some (s.expiryOfSec m.effStop) }) ∧
              (∀ p, idleRecordPath s = some p →
                ((buyOutcome s m).1 = none → (t.path p).job = some id ∧ (t.path p).snapshot = some v ∧
                  ∃ k, t.job id = some k ∧ k.state = .active ∧ k.path = some p ∧
                    k.start = m.start ∧ k.stop = m.stop) ∧
                (∀ r, (buyOutcome s m).1 = some r → t.job id = some (finished m (.failed r))))))) ∧
        (¬ held → j.state = .active →
          let k : Job := if free then m else { j with start := e.start }
          ((k.start ≠ j.start ∨ k.stop ≠ j.stop) →
            let l : Job := { k with endExpiry := some (s.expiryOfSec k.effStop) }
            ((s.netSec : Int) < k.effStop → t.job id = some l ∧ t.paths = s.paths ∧
              (k.effStart ≠ j.effStart →
                t.jobs.list = placeJob l (s.jobs.list.filter fun i => i.id != id))) ∧
            (k.effStop ≤ (s.netSec : Int) → t.job id = some (finished k .complete) ∧
              ∀ p, j.path = some p → (s.path p).snapshot ≠ none →
                (t.path p).state = .idle .jobEnded ∧ (t.path p).snapshot = none)))))) ∧
  (∀ (s : State) (a : Agent) (sid eid tag : Nat) (body : List Byte) (rest : List Request),
    Taken s a .guideDrop tag body rest → fields [2, 2] body = some [sid, eid] → 1 ≤ sid →
    s.guide.event sid eid ≠ none → TablesOk s → Settled s →
    ∃ t, exec (.guideDrop a) s = .next t ∧
      ∀ j ∈ s.jobs.list, j.service = sid → j.trigger = .event eid →
        (j.state = .scheduled → t.job j.id = some { j with
          state := .failed .eventGone, path := none, startDue := false, startExpiry := none,
          endExpiry := none, graceExpiry := none }) ∧
        (j.state = .active → ∃ k, t.job j.id = some k ∧ k.state = .active ∧ k.start = j.start ∧
          k.stop = j.stop ∧ k.endExpiry = j.endExpiry)) ∧
  (∀ (s : State) (a : Agent) (sid eid tag : Nat) (e : GuideEvent) (j : Job) (body bs : List Byte)
      (rest : List Request),
    Taken s a .guideLoad tag body rest → takeFields [2] body = some ([sid], bs) → 1 ≤ sid →
    takeList (takeEvent sid) bs = some ([some e], []) → e.id = eid → 0 < e.duration →
    s.timeKnown = true → e.start ≤ s.netSec + 1209600 → s.guide.pool.length < 4096 → Settled s →
    s.jobs.list = [j] → j.service = sid → j.trigger = .event eid → j.state = .scheduled →
    (j.start ≠ e.start ∨ j.stop ≠ e.start + e.duration) →
    let m : Job := { j with start := e.start, stop := e.start + e.duration }
    (s.netSec : Int) < m.effStart → m.effStart < m.effStop →
    ∃ t, exec (.guideLoad a) s = .next t ∧ t.jobs.list = [{ m with
      startDue := false, endExpiry := none, startExpiry := some (s.expiryOfSec m.effStart) }])

/-! ## Power states and the stored image -/

/-- STANDBY in ACTIVE makes the part QUIESCING: both view paths lose their service, a dirty image is being
written, and the part stays QUIESCING while a VERIFY, a write or a staging lineup holds it back, and otherwise
goes on to standby in the same action; the reply carries the state reached, and STANDBY also where SERVICE is
reached (log entry 15: the model's reading); outside ACTIVE it carries the present
state (R171, R172). The drain ends QUIESCING with its held commit committed (R172, R31). WAKE returns to ACTIVE
from every other state, commits a held lineup, restarts an idle card's clock in standby, raises POWER and answers
with the state before it (R173). -/
def Obligations.PowerRequests : Prop :=
  (∀ (s : State) (a : Agent) (tag : Nat) (rest : List Request), Taken s a .standby tag [] rest →
    (s.power.state ≠ .active → exec (.standby a) s =
      .next (answeredState s a tag rest .ok (u8 s.power.state.code))) ∧
    (s.power.state = .active →
      ∃ t, exec (.standby a) s = .next t ∧
        Answers s t a tag rest .ok (u8 (if t.power.state = .quiescing then 2 else 3)) ∧
        t.power.state ≠ .active ∧ (∀ p : PathNo, p.val < 2 → (t.path p).snapshot = none) ∧
        (∀ b, (s.link b).up = true → (s.link b).disabled = false → .power ∈ (t.link b).notices) ∧
        (s.store.dirty ≠ [] → t.store.write ≠ none) ∧
        ((s.store.dirty ≠ [] ∨ s.store.write ≠ none ∨ verifyCount s ≠ 0 ∨ s.staging ≠ none) →
          t.power.state = .quiescing) ∧
        (s.store.dirty = [] → s.store.write = none → verifyCount s = 0 → s.staging = none →
          s.parental.run = none → HoldersOk s → Settled s → NoStartDue s →
          t.power.state = .standby ∨ t.power.state = .service))) ∧
  (∀ s : State,
    ((s.power.state ≠ .quiescing ∨ drained s = false) → exec .drainComplete s = .next s) ∧
    (s.power.state = .quiescing → drained s = true →
      ∃ t, exec .drainComplete s = .next t ∧ t.power.held = none ∧
        t.power.state = (if t.card.state = .waking ∨ t.card.state = .ready then .service
          else .standby) ∧
        t.lineup = s.power.held.getD s.lineup)) ∧
  (∀ s : State, drained s = true ↔
    verifyCount s = 0 ∧ s.store.dirty = [] ∧ s.store.write = none ∧ s.staging = none) ∧
  (∀ (s : State) (a : Agent) (tag : Nat) (rest : List Request), Taken s a .wake tag [] rest →
    (s.power.state = .active → exec (.wake a) s = .next (answeredState s a tag rest .ok (u8 1))) ∧
    (s.power.state ≠ .active →
      ∃ t, exec (.wake a) s = .next t ∧ Answers s t a tag rest .ok (u8 s.power.state.code) ∧
        t.power = ⟨.active, none⟩ ∧
        t.lineup = (if s.power.state = .quiescing then s.power.held.getD s.lineup else s.lineup) ∧
        (∀ b, (s.link b).up = true → (s.link b).disabled = false → .power ∈ (t.link b).notices) ∧
        (s.power.state ≠ .quiescing → s.card.state = .idleClock →
          t.card.state = .waking ∧ t.card.wakeExpiry = some (s.localCount + 50))))

/-- What a change of a stored item does to the dirty set, the write and the commit delay, by the power state
(R177).

The writes of the image (R177, R178). The commit delay and WRITE BEGIN begin a write whose contents are those of
its start count (at the very count of the minute expiry: log entry 33), with a timeout 10,000 ahead and the dirty set
emptied. A completed write leaves its contents on the flash, where they are good when every item is in range; the next
write begins at once when the image is dirty and no commit delay stands. A flash error and the write timeout put all
five sections back, set the commit delay 2,000 ahead and raise FAULT. Without a write, or before its count, each does
nothing (log entry 1); WRITE BEGIN does nothing while a write is in progress or a commit delay stands (log entry 14). -/
def Obligations.ImageWritten : Prop :=
  (∀ (x : Sect) (s : State),
    let since := s.store.dirtySince.getD s.localCount
    let t := markDirty x s
    (∀ y, y ∈ addSect x s.store.dirty ↔ y = x ∨ y ∈ s.store.dirty) ∧
    (s.power.state ≠ .quiescing →
      t = s.setStore { s.store with
        dirty := addSect x s.store.dirty, dirtySince := some since
        commitDelay := some (if since + 10000 < s.localCount + 2000 then since + 10000
          else s.localCount + 2000) }) ∧
    (∀ w, s.power.state = .quiescing → s.store.write = some w →
      t = s.setStore { s.store with
        dirty := addSect x s.store.dirty, dirtySince := some since }) ∧
    (s.power.state = .quiescing → s.store.write = none →
      t.store = { s.store with
        dirty := [], dirtySince := none, flash := none
        write := some ⟨s.localCount, s.localCount + 10000, imageOf s⟩ } ∧
      t.sent = s.sent ++ [.flashWrite])) ∧
  (∀ (s : State) (c : Instr), s.store.write = none →
    (c = .commitDelayExpiry ∧ s.reached s.store.commitDelay = true ∨
      c = .writeBegin ∧ s.store.dirty ≠ [] ∧ s.store.commitDelay = none) →
    ∃ t, exec c s = .next t ∧ Only [.store, .sent] s t ∧ t.sent = s.sent ++ [.flashWrite] ∧
      t.store = { s.store with
        dirty := [], dirtySince := none, commitDelay := none, flash := none
        write := some ⟨s.localCount, s.localCount + 10000, imageOf s⟩ }) ∧
  (∀ s : State,
    (s.store.write ≠ none → s.reached s.store.commitDelay = true →
      exec .commitDelayExpiry s = .next (s.setStore { s.store with commitDelay := none })) ∧
    (s.reached s.store.commitDelay = false → exec .commitDelayExpiry s = .next s) ∧
    ((s.store.write ≠ none ∨ s.store.dirty = [] ∨ s.store.commitDelay ≠ none) →
      exec .writeBegin s = .next s)) ∧
  (∀ (s : State) (w : Write), s.store.write = some w → Settled s → s.power.state ≠ .quiescing →
    ((s.store.dirty = [] ∨ s.store.commitDelay ≠ none) →
      exec .flashWriteComplete s = .next (s.setStore { s.store with
        flash := some (flashOf w.image), write := none, lastWrite := .done })) ∧
    (s.store.dirty ≠ [] → s.store.commitDelay = none →
      ∃ t, exec .flashWriteComplete s = .next t ∧ t.store.lastWrite = .done ∧
        t.store.write = some ⟨s.localCount, s.localCount + 10000, imageOf s⟩ ∧
        t.store.dirty = [])) ∧
  (∀ (s : State) (w : Write), s.store.write = some w → Settled s → s.power.state = .quiescing →
    (s.store.dirty ≠ [] → ∃ t, exec .flashWriteComplete s = .next t ∧ t.power = s.power ∧
      t.store.write = some ⟨s.localCount, s.localCount + 10000, imageOf s⟩) ∧
    (s.store.dirty = [] → verifyCount s = 0 → s.staging = none →
      ∃ t, exec .flashWriteComplete s = .next t ∧ t.power.state ≠ .quiescing ∧
        t.store.flash = some (flashOf w.image) ∧ t.store.lastWrite = .done)) ∧
  (∀ m : Image, imageInRange m = true → goodImage (some (flashOf m)) = some m) ∧
  (∀ (s : State) (w : Write) (c : Instr), s.store.write = some w → Settled s →
    (c = .flashWriteError ∨ c = .writeTimeout ∧ w.timeout ≤ s.localCount) →
    ∃ t, exec c s = .next t ∧ Only [.store, .agents, .leadNotices] s t ∧
      t.store = { s.store with
        dirty := [.lineup, .access, .parental, .jobs, .settings]
        dirtySince := some (s.store.dirtySince.getD s.localCount)
        commitDelay := some (s.localCount + 2000), write := none, lastWrite := .failed }) ∧
  (∀ s : State,
    (s.store.write = none → exec .flashWriteComplete s = .next s ∧
      exec .flashWriteError s = .next s ∧ exec .writeTimeout s = .next s) ∧
    (∀ w, s.store.write = some w → s.localCount < w.timeout → exec .writeTimeout s = .next s))
end

