-- ==== Sys2Proof/Laws/State.lean ====
section
/-! SUPPORT. What reading a field gives after a setter: one lemma per field per setter, each true by
unfolding, and the laws of the indexed registers (paths, inputs, links). -/

set_option Elab.async false

namespace Sys2Proof.Machine

variable (s : State)

/-! ### setCount -/

@[simp] theorem setCount_localCount (x : Count) : (s.setCount x).localCount = x := rfl
@[simp] theorem setCount_time (x : Count) : (s.setCount x).time = s.time := rfl
@[simp] theorem setCount_lineup (x : Count) : (s.setCount x).lineup = s.lineup := rfl
@[simp] theorem setCount_staging (x : Count) : (s.setCount x).staging = s.staging := rfl
@[simp] theorem setCount_guide (x : Count) : (s.setCount x).guide = s.guide := rfl
@[simp] theorem setCount_inputs (x : Count) : (s.setCount x).inputs = s.inputs := rfl
@[simp] theorem setCount_claimQueue (x : Count) : (s.setCount x).claimQueue = s.claimQueue := rfl
@[simp] theorem setCount_paths (x : Count) : (s.setCount x).paths = s.paths := rfl
@[simp] theorem setCount_access (x : Count) : (s.setCount x).access = s.access := rfl
@[simp] theorem setCount_card (x : Count) : (s.setCount x).card = s.card := rfl
@[simp] theorem setCount_parental (x : Count) : (s.setCount x).parental = s.parental := rfl
@[simp] theorem setCount_jobs (x : Count) : (s.setCount x).jobs = s.jobs := rfl
@[simp] theorem setCount_power (x : Count) : (s.setCount x).power = s.power := rfl
@[simp] theorem setCount_store (x : Count) : (s.setCount x).store = s.store := rfl
@[simp] theorem setCount_agents (x : Count) : (s.setCount x).agents = s.agents := rfl
@[simp] theorem setCount_lead (x : Count) : (s.setCount x).lead = s.lead := rfl
@[simp] theorem setCount_leadNotices (x : Count) : (s.setCount x).leadNotices = s.leadNotices := rfl
@[simp] theorem setCount_noticeMap (x : Count) : (s.setCount x).noticeMap = s.noticeMap := rfl
@[simp] theorem setCount_sent (x : Count) : (s.setCount x).sent = s.sent := rfl
@[simp] theorem setCount_gatesDue (x : Count) : (s.setCount x).gatesDue = s.gatesDue := rfl
@[simp] theorem setCount_pending (x : Count) : (s.setCount x).pending = s.pending := rfl
@[simp] theorem setCount_path (x : Count) (p : PathNo) : (s.setCount x).path p = s.path p := rfl
@[simp] theorem setCount_input (x : Count) (i : InputNo) : (s.setCount x).input i = s.input i := rfl
@[simp] theorem setCount_link (x : Count) (a : Agent) : (s.setCount x).link a = s.link a := rfl

/-! ### setTime -/

@[simp] theorem setTime_localCount (x : TimeBase) : (s.setTime x).localCount = s.localCount := rfl
@[simp] theorem setTime_time (x : TimeBase) : (s.setTime x).time = x := rfl
@[simp] theorem setTime_lineup (x : TimeBase) : (s.setTime x).lineup = s.lineup := rfl
@[simp] theorem setTime_staging (x : TimeBase) : (s.setTime x).staging = s.staging := rfl
@[simp] theorem setTime_guide (x : TimeBase) : (s.setTime x).guide = s.guide := rfl
@[simp] theorem setTime_inputs (x : TimeBase) : (s.setTime x).inputs = s.inputs := rfl
@[simp] theorem setTime_claimQueue (x : TimeBase) : (s.setTime x).claimQueue = s.claimQueue := rfl
@[simp] theorem setTime_paths (x : TimeBase) : (s.setTime x).paths = s.paths := rfl
@[simp] theorem setTime_access (x : TimeBase) : (s.setTime x).access = s.access := rfl
@[simp] theorem setTime_card (x : TimeBase) : (s.setTime x).card = s.card := rfl
@[simp] theorem setTime_parental (x : TimeBase) : (s.setTime x).parental = s.parental := rfl
@[simp] theorem setTime_jobs (x : TimeBase) : (s.setTime x).jobs = s.jobs := rfl
@[simp] theorem setTime_power (x : TimeBase) : (s.setTime x).power = s.power := rfl
@[simp] theorem setTime_store (x : TimeBase) : (s.setTime x).store = s.store := rfl
@[simp] theorem setTime_agents (x : TimeBase) : (s.setTime x).agents = s.agents := rfl
@[simp] theorem setTime_lead (x : TimeBase) : (s.setTime x).lead = s.lead := rfl
@[simp] theorem setTime_leadNotices (x : TimeBase) : (s.setTime x).leadNotices = s.leadNotices := rfl
@[simp] theorem setTime_noticeMap (x : TimeBase) : (s.setTime x).noticeMap = s.noticeMap := rfl
@[simp] theorem setTime_sent (x : TimeBase) : (s.setTime x).sent = s.sent := rfl
@[simp] theorem setTime_gatesDue (x : TimeBase) : (s.setTime x).gatesDue = s.gatesDue := rfl
@[simp] theorem setTime_pending (x : TimeBase) : (s.setTime x).pending = s.pending := rfl
@[simp] theorem setTime_path (x : TimeBase) (p : PathNo) : (s.setTime x).path p = s.path p := rfl
@[simp] theorem setTime_input (x : TimeBase) (i : InputNo) : (s.setTime x).input i = s.input i := rfl
@[simp] theorem setTime_link (x : TimeBase) (a : Agent) : (s.setTime x).link a = s.link a := rfl

/-! ### setLineup -/

@[simp] theorem setLineup_localCount (x : Lineup) : (s.setLineup x).localCount = s.localCount := rfl
@[simp] theorem setLineup_time (x : Lineup) : (s.setLineup x).time = s.time := rfl
@[simp] theorem setLineup_lineup (x : Lineup) : (s.setLineup x).lineup = x := rfl
@[simp] theorem setLineup_staging (x : Lineup) : (s.setLineup x).staging = s.staging := rfl
@[simp] theorem setLineup_guide (x : Lineup) : (s.setLineup x).guide = s.guide := rfl
@[simp] theorem setLineup_inputs (x : Lineup) : (s.setLineup x).inputs = s.inputs := rfl
@[simp] theorem setLineup_claimQueue (x : Lineup) : (s.setLineup x).claimQueue = s.claimQueue := rfl
@[simp] theorem setLineup_paths (x : Lineup) : (s.setLineup x).paths = s.paths := rfl
@[simp] theorem setLineup_access (x : Lineup) : (s.setLineup x).access = s.access := rfl
@[simp] theorem setLineup_card (x : Lineup) : (s.setLineup x).card = s.card := rfl
@[simp] theorem setLineup_parental (x : Lineup) : (s.setLineup x).parental = s.parental := rfl
@[simp] theorem setLineup_jobs (x : Lineup) : (s.setLineup x).jobs = s.jobs := rfl
@[simp] theorem setLineup_power (x : Lineup) : (s.setLineup x).power = s.power := rfl
@[simp] theorem setLineup_store (x : Lineup) : (s.setLineup x).store = s.store := rfl
@[simp] theorem setLineup_agents (x : Lineup) : (s.setLineup x).agents = s.agents := rfl
@[simp] theorem setLineup_lead (x : Lineup) : (s.setLineup x).lead = s.lead := rfl
@[simp] theorem setLineup_leadNotices (x : Lineup) : (s.setLineup x).leadNotices = s.leadNotices := rfl
@[simp] theorem setLineup_noticeMap (x : Lineup) : (s.setLineup x).noticeMap = s.noticeMap := rfl
@[simp] theorem setLineup_sent (x : Lineup) : (s.setLineup x).sent = s.sent := rfl
@[simp] theorem setLineup_gatesDue (x : Lineup) : (s.setLineup x).gatesDue = s.gatesDue := rfl
@[simp] theorem setLineup_pending (x : Lineup) : (s.setLineup x).pending = s.pending := rfl
@[simp] theorem setLineup_path (x : Lineup) (p : PathNo) : (s.setLineup x).path p = s.path p := rfl
@[simp] theorem setLineup_input (x : Lineup) (i : InputNo) : (s.setLineup x).input i = s.input i := rfl
@[simp] theorem setLineup_link (x : Lineup) (a : Agent) : (s.setLineup x).link a = s.link a := rfl

/-! ### setStaging -/

@[simp] theorem setStaging_localCount (x : Option Lineup) : (s.setStaging x).localCount = s.localCount := rfl
@[simp] theorem setStaging_time (x : Option Lineup) : (s.setStaging x).time = s.time := rfl
@[simp] theorem setStaging_lineup (x : Option Lineup) : (s.setStaging x).lineup = s.lineup := rfl
@[simp] theorem setStaging_staging (x : Option Lineup) : (s.setStaging x).staging = x := rfl
@[simp] theorem setStaging_guide (x : Option Lineup) : (s.setStaging x).guide = s.guide := rfl
@[simp] theorem setStaging_inputs (x : Option Lineup) : (s.setStaging x).inputs = s.inputs := rfl
@[simp] theorem setStaging_claimQueue (x : Option Lineup) : (s.setStaging x).claimQueue = s.claimQueue := rfl
@[simp] theorem setStaging_paths (x : Option Lineup) : (s.setStaging x).paths = s.paths := rfl
@[simp] theorem setStaging_access (x : Option Lineup) : (s.setStaging x).access = s.access := rfl
@[simp] theorem setStaging_card (x : Option Lineup) : (s.setStaging x).card = s.card := rfl
@[simp] theorem setStaging_parental (x : Option Lineup) : (s.setStaging x).parental = s.parental := rfl
@[simp] theorem setStaging_jobs (x : Option Lineup) : (s.setStaging x).jobs = s.jobs := rfl
@[simp] theorem setStaging_power (x : Option Lineup) : (s.setStaging x).power = s.power := rfl
@[simp] theorem setStaging_store (x : Option Lineup) : (s.setStaging x).store = s.store := rfl
@[simp] theorem setStaging_agents (x : Option Lineup) : (s.setStaging x).agents = s.agents := rfl
@[simp] theorem setStaging_lead (x : Option Lineup) : (s.setStaging x).lead = s.lead := rfl
@[simp] theorem setStaging_leadNotices (x : Option Lineup) : (s.setStaging x).leadNotices = s.leadNotices := rfl
@[simp] theorem setStaging_noticeMap (x : Option Lineup) : (s.setStaging x).noticeMap = s.noticeMap := rfl
@[simp] theorem setStaging_sent (x : Option Lineup) : (s.setStaging x).sent = s.sent := rfl
@[simp] theorem setStaging_gatesDue (x : Option Lineup) : (s.setStaging x).gatesDue = s.gatesDue := rfl
@[simp] theorem setStaging_pending (x : Option Lineup) : (s.setStaging x).pending = s.pending := rfl
@[simp] theorem setStaging_path (x : Option Lineup) (p : PathNo) : (s.setStaging x).path p = s.path p := rfl
@[simp] theorem setStaging_input (x : Option Lineup) (i : InputNo) : (s.setStaging x).input i = s.input i := rfl
@[simp] theorem setStaging_link (x : Option Lineup) (a : Agent) : (s.setStaging x).link a = s.link a := rfl

/-! ### setGuide -/

@[simp] theorem setGuide_localCount (x : Guide) : (s.setGuide x).localCount = s.localCount := rfl
@[simp] theorem setGuide_time (x : Guide) : (s.setGuide x).time = s.time := rfl
@[simp] theorem setGuide_lineup (x : Guide) : (s.setGuide x).lineup = s.lineup := rfl
@[simp] theorem setGuide_staging (x : Guide) : (s.setGuide x).staging = s.staging := rfl
@[simp] theorem setGuide_guide (x : Guide) : (s.setGuide x).guide = x := rfl
@[simp] theorem setGuide_inputs (x : Guide) : (s.setGuide x).inputs = s.inputs := rfl
@[simp] theorem setGuide_claimQueue (x : Guide) : (s.setGuide x).claimQueue = s.claimQueue := rfl
@[simp] theorem setGuide_paths (x : Guide) : (s.setGuide x).paths = s.paths := rfl
@[simp] theorem setGuide_access (x : Guide) : (s.setGuide x).access = s.access := rfl
@[simp] theorem setGuide_card (x : Guide) : (s.setGuide x).card = s.card := rfl
@[simp] theorem setGuide_parental (x : Guide) : (s.setGuide x).parental = s.parental := rfl
@[simp] theorem setGuide_jobs (x : Guide) : (s.setGuide x).jobs = s.jobs := rfl
@[simp] theorem setGuide_power (x : Guide) : (s.setGuide x).power = s.power := rfl
@[simp] theorem setGuide_store (x : Guide) : (s.setGuide x).store = s.store := rfl
@[simp] theorem setGuide_agents (x : Guide) : (s.setGuide x).agents = s.agents := rfl
@[simp] theorem setGuide_lead (x : Guide) : (s.setGuide x).lead = s.lead := rfl
@[simp] theorem setGuide_leadNotices (x : Guide) : (s.setGuide x).leadNotices = s.leadNotices := rfl
@[simp] theorem setGuide_noticeMap (x : Guide) : (s.setGuide x).noticeMap = s.noticeMap := rfl
@[simp] theorem setGuide_sent (x : Guide) : (s.setGuide x).sent = s.sent := rfl
@[simp] theorem setGuide_gatesDue (x : Guide) : (s.setGuide x).gatesDue = s.gatesDue := rfl
@[simp] theorem setGuide_pending (x : Guide) : (s.setGuide x).pending = s.pending := rfl
@[simp] theorem setGuide_path (x : Guide) (p : PathNo) : (s.setGuide x).path p = s.path p := rfl
@[simp] theorem setGuide_input (x : Guide) (i : InputNo) : (s.setGuide x).input i = s.input i := rfl
@[simp] theorem setGuide_link (x : Guide) (a : Agent) : (s.setGuide x).link a = s.link a := rfl

/-! ### setInputs -/

@[simp] theorem setInputs_localCount (x : Vector CarrierInput 4) : (s.setInputs x).localCount = s.localCount := rfl
@[simp] theorem setInputs_time (x : Vector CarrierInput 4) : (s.setInputs x).time = s.time := rfl
@[simp] theorem setInputs_lineup (x : Vector CarrierInput 4) : (s.setInputs x).lineup = s.lineup := rfl
@[simp] theorem setInputs_staging (x : Vector CarrierInput 4) : (s.setInputs x).staging = s.staging := rfl
@[simp] theorem setInputs_guide (x : Vector CarrierInput 4) : (s.setInputs x).guide = s.guide := rfl
@[simp] theorem setInputs_inputs (x : Vector CarrierInput 4) : (s.setInputs x).inputs = x := rfl
@[simp] theorem setInputs_claimQueue (x : Vector CarrierInput 4) : (s.setInputs x).claimQueue = s.claimQueue := rfl
@[simp] theorem setInputs_paths (x : Vector CarrierInput 4) : (s.setInputs x).paths = s.paths := rfl
@[simp] theorem setInputs_access (x : Vector CarrierInput 4) : (s.setInputs x).access = s.access := rfl
@[simp] theorem setInputs_card (x : Vector CarrierInput 4) : (s.setInputs x).card = s.card := rfl
@[simp] theorem setInputs_parental (x : Vector CarrierInput 4) : (s.setInputs x).parental = s.parental := rfl
@[simp] theorem setInputs_jobs (x : Vector CarrierInput 4) : (s.setInputs x).jobs = s.jobs := rfl
@[simp] theorem setInputs_power (x : Vector CarrierInput 4) : (s.setInputs x).power = s.power := rfl
@[simp] theorem setInputs_store (x : Vector CarrierInput 4) : (s.setInputs x).store = s.store := rfl
@[simp] theorem setInputs_agents (x : Vector CarrierInput 4) : (s.setInputs x).agents = s.agents := rfl
@[simp] theorem setInputs_lead (x : Vector CarrierInput 4) : (s.setInputs x).lead = s.lead := rfl
@[simp] theorem setInputs_leadNotices (x : Vector CarrierInput 4) : (s.setInputs x).leadNotices = s.leadNotices := rfl
@[simp] theorem setInputs_noticeMap (x : Vector CarrierInput 4) : (s.setInputs x).noticeMap = s.noticeMap := rfl
@[simp] theorem setInputs_sent (x : Vector CarrierInput 4) : (s.setInputs x).sent = s.sent := rfl
@[simp] theorem setInputs_gatesDue (x : Vector CarrierInput 4) : (s.setInputs x).gatesDue = s.gatesDue := rfl
@[simp] theorem setInputs_pending (x : Vector CarrierInput 4) : (s.setInputs x).pending = s.pending := rfl
@[simp] theorem setInputs_path (x : Vector CarrierInput 4) (p : PathNo) : (s.setInputs x).path p = s.path p := rfl
@[simp] theorem setInputs_link (x : Vector CarrierInput 4) (a : Agent) : (s.setInputs x).link a = s.link a := rfl

/-! ### setClaimQueue -/

@[simp] theorem setClaimQueue_localCount (x : List PathNo) : (s.setClaimQueue x).localCount = s.localCount := rfl
@[simp] theorem setClaimQueue_time (x : List PathNo) : (s.setClaimQueue x).time = s.time := rfl
@[simp] theorem setClaimQueue_lineup (x : List PathNo) : (s.setClaimQueue x).lineup = s.lineup := rfl
@[simp] theorem setClaimQueue_staging (x : List PathNo) : (s.setClaimQueue x).staging = s.staging := rfl
@[simp] theorem setClaimQueue_guide (x : List PathNo) : (s.setClaimQueue x).guide = s.guide := rfl
@[simp] theorem setClaimQueue_inputs (x : List PathNo) : (s.setClaimQueue x).inputs = s.inputs := rfl
@[simp] theorem setClaimQueue_claimQueue (x : List PathNo) : (s.setClaimQueue x).claimQueue = x := rfl
@[simp] theorem setClaimQueue_paths (x : List PathNo) : (s.setClaimQueue x).paths = s.paths := rfl
@[simp] theorem setClaimQueue_access (x : List PathNo) : (s.setClaimQueue x).access = s.access := rfl
@[simp] theorem setClaimQueue_card (x : List PathNo) : (s.setClaimQueue x).card = s.card := rfl
@[simp] theorem setClaimQueue_parental (x : List PathNo) : (s.setClaimQueue x).parental = s.parental := rfl
@[simp] theorem setClaimQueue_jobs (x : List PathNo) : (s.setClaimQueue x).jobs = s.jobs := rfl
@[simp] theorem setClaimQueue_power (x : List PathNo) : (s.setClaimQueue x).power = s.power := rfl
@[simp] theorem setClaimQueue_store (x : List PathNo) : (s.setClaimQueue x).store = s.store := rfl
@[simp] theorem setClaimQueue_agents (x : List PathNo) : (s.setClaimQueue x).agents = s.agents := rfl
@[simp] theorem setClaimQueue_lead (x : List PathNo) : (s.setClaimQueue x).lead = s.lead := rfl
@[simp] theorem setClaimQueue_leadNotices (x : List PathNo) : (s.setClaimQueue x).leadNotices = s.leadNotices := rfl
@[simp] theorem setClaimQueue_noticeMap (x : List PathNo) : (s.setClaimQueue x).noticeMap = s.noticeMap := rfl
@[simp] theorem setClaimQueue_sent (x : List PathNo) : (s.setClaimQueue x).sent = s.sent := rfl
@[simp] theorem setClaimQueue_gatesDue (x : List PathNo) : (s.setClaimQueue x).gatesDue = s.gatesDue := rfl
@[simp] theorem setClaimQueue_pending (x : List PathNo) : (s.setClaimQueue x).pending = s.pending := rfl
@[simp] theorem setClaimQueue_path (x : List PathNo) (p : PathNo) : (s.setClaimQueue x).path p = s.path p := rfl
@[simp] theorem setClaimQueue_input (x : List PathNo) (i : InputNo) : (s.setClaimQueue x).input i = s.input i := rfl
@[simp] theorem setClaimQueue_link (x : List PathNo) (a : Agent) : (s.setClaimQueue x).link a = s.link a := rfl

/-! ### setPaths -/

@[simp] theorem setPaths_localCount (x : Vector Path 6) : (s.setPaths x).localCount = s.localCount := rfl
@[simp] theorem setPaths_time (x : Vector Path 6) : (s.setPaths x).time = s.time := rfl
@[simp] theorem setPaths_lineup (x : Vector Path 6) : (s.setPaths x).lineup = s.lineup := rfl
@[simp] theorem setPaths_staging (x : Vector Path 6) : (s.setPaths x).staging = s.staging := rfl
@[simp] theorem setPaths_guide (x : Vector Path 6) : (s.setPaths x).guide = s.guide := rfl
@[simp] theorem setPaths_inputs (x : Vector Path 6) : (s.setPaths x).inputs = s.inputs := rfl
@[simp] theorem setPaths_claimQueue (x : Vector Path 6) : (s.setPaths x).claimQueue = s.claimQueue := rfl
@[simp] theorem setPaths_paths (x : Vector Path 6) : (s.setPaths x).paths = x := rfl
@[simp] theorem setPaths_access (x : Vector Path 6) : (s.setPaths x).access = s.access := rfl
@[simp] theorem setPaths_card (x : Vector Path 6) : (s.setPaths x).card = s.card := rfl
@[simp] theorem setPaths_parental (x : Vector Path 6) : (s.setPaths x).parental = s.parental := rfl
@[simp] theorem setPaths_jobs (x : Vector Path 6) : (s.setPaths x).jobs = s.jobs := rfl
@[simp] theorem setPaths_power (x : Vector Path 6) : (s.setPaths x).power = s.power := rfl
@[simp] theorem setPaths_store (x : Vector Path 6) : (s.setPaths x).store = s.store := rfl
@[simp] theorem setPaths_agents (x : Vector Path 6) : (s.setPaths x).agents = s.agents := rfl
@[simp] theorem setPaths_lead (x : Vector Path 6) : (s.setPaths x).lead = s.lead := rfl
@[simp] theorem setPaths_leadNotices (x : Vector Path 6) : (s.setPaths x).leadNotices = s.leadNotices := rfl
@[simp] theorem setPaths_noticeMap (x : Vector Path 6) : (s.setPaths x).noticeMap = s.noticeMap := rfl
@[simp] theorem setPaths_sent (x : Vector Path 6) : (s.setPaths x).sent = s.sent := rfl
@[simp] theorem setPaths_gatesDue (x : Vector Path 6) : (s.setPaths x).gatesDue = s.gatesDue := rfl
@[simp] theorem setPaths_pending (x : Vector Path 6) : (s.setPaths x).pending = s.pending := rfl
@[simp] theorem setPaths_input (x : Vector Path 6) (i : InputNo) : (s.setPaths x).input i = s.input i := rfl
@[simp] theorem setPaths_link (x : Vector Path 6) (a : Agent) : (s.setPaths x).link a = s.link a := rfl

/-! ### setAccess -/

@[simp] theorem setAccess_localCount (x : Access) : (s.setAccess x).localCount = s.localCount := rfl
@[simp] theorem setAccess_time (x : Access) : (s.setAccess x).time = s.time := rfl
@[simp] theorem setAccess_lineup (x : Access) : (s.setAccess x).lineup = s.lineup := rfl
@[simp] theorem setAccess_staging (x : Access) : (s.setAccess x).staging = s.staging := rfl
@[simp] theorem setAccess_guide (x : Access) : (s.setAccess x).guide = s.guide := rfl
@[simp] theorem setAccess_inputs (x : Access) : (s.setAccess x).inputs = s.inputs := rfl
@[simp] theorem setAccess_claimQueue (x : Access) : (s.setAccess x).claimQueue = s.claimQueue := rfl
@[simp] theorem setAccess_paths (x : Access) : (s.setAccess x).paths = s.paths := rfl
@[simp] theorem setAccess_access (x : Access) : (s.setAccess x).access = x := rfl
@[simp] theorem setAccess_card (x : Access) : (s.setAccess x).card = s.card := rfl
@[simp] theorem setAccess_parental (x : Access) : (s.setAccess x).parental = s.parental := rfl
@[simp] theorem setAccess_jobs (x : Access) : (s.setAccess x).jobs = s.jobs := rfl
@[simp] theorem setAccess_power (x : Access) : (s.setAccess x).power = s.power := rfl
@[simp] theorem setAccess_store (x : Access) : (s.setAccess x).store = s.store := rfl
@[simp] theorem setAccess_agents (x : Access) : (s.setAccess x).agents = s.agents := rfl
@[simp] theorem setAccess_lead (x : Access) : (s.setAccess x).lead = s.lead := rfl
@[simp] theorem setAccess_leadNotices (x : Access) : (s.setAccess x).leadNotices = s.leadNotices := rfl
@[simp] theorem setAccess_noticeMap (x : Access) : (s.setAccess x).noticeMap = s.noticeMap := rfl
@[simp] theorem setAccess_sent (x : Access) : (s.setAccess x).sent = s.sent := rfl
@[simp] theorem setAccess_gatesDue (x : Access) : (s.setAccess x).gatesDue = s.gatesDue := rfl
@[simp] theorem setAccess_pending (x : Access) : (s.setAccess x).pending = s.pending := rfl
@[simp] theorem setAccess_path (x : Access) (p : PathNo) : (s.setAccess x).path p = s.path p := rfl
@[simp] theorem setAccess_input (x : Access) (i : InputNo) : (s.setAccess x).input i = s.input i := rfl
@[simp] theorem setAccess_link (x : Access) (a : Agent) : (s.setAccess x).link a = s.link a := rfl

/-! ### setCard -/

@[simp] theorem setCard_localCount (x : CardLink) : (s.setCard x).localCount = s.localCount := rfl
@[simp] theorem setCard_time (x : CardLink) : (s.setCard x).time = s.time := rfl
@[simp] theorem setCard_lineup (x : CardLink) : (s.setCard x).lineup = s.lineup := rfl
@[simp] theorem setCard_staging (x : CardLink) : (s.setCard x).staging = s.staging := rfl
@[simp] theorem setCard_guide (x : CardLink) : (s.setCard x).guide = s.guide := rfl
@[simp] theorem setCard_inputs (x : CardLink) : (s.setCard x).inputs = s.inputs := rfl
@[simp] theorem setCard_claimQueue (x : CardLink) : (s.setCard x).claimQueue = s.claimQueue := rfl
@[simp] theorem setCard_paths (x : CardLink) : (s.setCard x).paths = s.paths := rfl
@[simp] theorem setCard_access (x : CardLink) : (s.setCard x).access = s.access := rfl
@[simp] theorem setCard_card (x : CardLink) : (s.setCard x).card = x := rfl
@[simp] theorem setCard_parental (x : CardLink) : (s.setCard x).parental = s.parental := rfl
@[simp] theorem setCard_jobs (x : CardLink) : (s.setCard x).jobs = s.jobs := rfl
@[simp] theorem setCard_power (x : CardLink) : (s.setCard x).power = s.power := rfl
@[simp] theorem setCard_store (x : CardLink) : (s.setCard x).store = s.store := rfl
@[simp] theorem setCard_agents (x : CardLink) : (s.setCard x).agents = s.agents := rfl
@[simp] theorem setCard_lead (x : CardLink) : (s.setCard x).lead = s.lead := rfl
@[simp] theorem setCard_leadNotices (x : CardLink) : (s.setCard x).leadNotices = s.leadNotices := rfl
@[simp] theorem setCard_noticeMap (x : CardLink) : (s.setCard x).noticeMap = s.noticeMap := rfl
@[simp] theorem setCard_sent (x : CardLink) : (s.setCard x).sent = s.sent := rfl
@[simp] theorem setCard_gatesDue (x : CardLink) : (s.setCard x).gatesDue = s.gatesDue := rfl
@[simp] theorem setCard_pending (x : CardLink) : (s.setCard x).pending = s.pending := rfl
@[simp] theorem setCard_path (x : CardLink) (p : PathNo) : (s.setCard x).path p = s.path p := rfl
@[simp] theorem setCard_input (x : CardLink) (i : InputNo) : (s.setCard x).input i = s.input i := rfl
@[simp] theorem setCard_link (x : CardLink) (a : Agent) : (s.setCard x).link a = s.link a := rfl

/-! ### setParental -/

@[simp] theorem setParental_localCount (x : Parental) : (s.setParental x).localCount = s.localCount := rfl
@[simp] theorem setParental_time (x : Parental) : (s.setParental x).time = s.time := rfl
@[simp] theorem setParental_lineup (x : Parental) : (s.setParental x).lineup = s.lineup := rfl
@[simp] theorem setParental_staging (x : Parental) : (s.setParental x).staging = s.staging := rfl
@[simp] theorem setParental_guide (x : Parental) : (s.setParental x).guide = s.guide := rfl
@[simp] theorem setParental_inputs (x : Parental) : (s.setParental x).inputs = s.inputs := rfl
@[simp] theorem setParental_claimQueue (x : Parental) : (s.setParental x).claimQueue = s.claimQueue := rfl
@[simp] theorem setParental_paths (x : Parental) : (s.setParental x).paths = s.paths := rfl
@[simp] theorem setParental_access (x : Parental) : (s.setParental x).access = s.access := rfl
@[simp] theorem setParental_card (x : Parental) : (s.setParental x).card = s.card := rfl
@[simp] theorem setParental_parental (x : Parental) : (s.setParental x).parental = x := rfl
@[simp] theorem setParental_jobs (x : Parental) : (s.setParental x).jobs = s.jobs := rfl
@[simp] theorem setParental_power (x : Parental) : (s.setParental x).power = s.power := rfl
@[simp] theorem setParental_store (x : Parental) : (s.setParental x).store = s.store := rfl
@[simp] theorem setParental_agents (x : Parental) : (s.setParental x).agents = s.agents := rfl
@[simp] theorem setParental_lead (x : Parental) : (s.setParental x).lead = s.lead := rfl
@[simp] theorem setParental_leadNotices (x : Parental) : (s.setParental x).leadNotices = s.leadNotices := rfl
@[simp] theorem setParental_noticeMap (x : Parental) : (s.setParental x).noticeMap = s.noticeMap := rfl
@[simp] theorem setParental_sent (x : Parental) : (s.setParental x).sent = s.sent := rfl
@[simp] theorem setParental_gatesDue (x : Parental) : (s.setParental x).gatesDue = s.gatesDue := rfl
@[simp] theorem setParental_pending (x : Parental) : (s.setParental x).pending = s.pending := rfl
@[simp] theorem setParental_path (x : Parental) (p : PathNo) : (s.setParental x).path p = s.path p := rfl
@[simp] theorem setParental_input (x : Parental) (i : InputNo) : (s.setParental x).input i = s.input i := rfl
@[simp] theorem setParental_link (x : Parental) (a : Agent) : (s.setParental x).link a = s.link a := rfl

/-! ### setJobs -/

@[simp] theorem setJobs_localCount (x : Jobs) : (s.setJobs x).localCount = s.localCount := rfl
@[simp] theorem setJobs_time (x : Jobs) : (s.setJobs x).time = s.time := rfl
@[simp] theorem setJobs_lineup (x : Jobs) : (s.setJobs x).lineup = s.lineup := rfl
@[simp] theorem setJobs_staging (x : Jobs) : (s.setJobs x).staging = s.staging := rfl
@[simp] theorem setJobs_guide (x : Jobs) : (s.setJobs x).guide = s.guide := rfl
@[simp] theorem setJobs_inputs (x : Jobs) : (s.setJobs x).inputs = s.inputs := rfl
@[simp] theorem setJobs_claimQueue (x : Jobs) : (s.setJobs x).claimQueue = s.claimQueue := rfl
@[simp] theorem setJobs_paths (x : Jobs) : (s.setJobs x).paths = s.paths := rfl
@[simp] theorem setJobs_access (x : Jobs) : (s.setJobs x).access = s.access := rfl
@[simp] theorem setJobs_card (x : Jobs) : (s.setJobs x).card = s.card := rfl
@[simp] theorem setJobs_parental (x : Jobs) : (s.setJobs x).parental = s.parental := rfl
@[simp] theorem setJobs_jobs (x : Jobs) : (s.setJobs x).jobs = x := rfl
@[simp] theorem setJobs_power (x : Jobs) : (s.setJobs x).power = s.power := rfl
@[simp] theorem setJobs_store (x : Jobs) : (s.setJobs x).store = s.store := rfl
@[simp] theorem setJobs_agents (x : Jobs) : (s.setJobs x).agents = s.agents := rfl
@[simp] theorem setJobs_lead (x : Jobs) : (s.setJobs x).lead = s.lead := rfl
@[simp] theorem setJobs_leadNotices (x : Jobs) : (s.setJobs x).leadNotices = s.leadNotices := rfl
@[simp] theorem setJobs_noticeMap (x : Jobs) : (s.setJobs x).noticeMap = s.noticeMap := rfl
@[simp] theorem setJobs_sent (x : Jobs) : (s.setJobs x).sent = s.sent := rfl
@[simp] theorem setJobs_gatesDue (x : Jobs) : (s.setJobs x).gatesDue = s.gatesDue := rfl
@[simp] theorem setJobs_pending (x : Jobs) : (s.setJobs x).pending = s.pending := rfl
@[simp] theorem setJobs_path (x : Jobs) (p : PathNo) : (s.setJobs x).path p = s.path p := rfl
@[simp] theorem setJobs_input (x : Jobs) (i : InputNo) : (s.setJobs x).input i = s.input i := rfl
@[simp] theorem setJobs_link (x : Jobs) (a : Agent) : (s.setJobs x).link a = s.link a := rfl

/-! ### setPower -/

@[simp] theorem setPower_localCount (x : Power) : (s.setPower x).localCount = s.localCount := rfl
@[simp] theorem setPower_time (x : Power) : (s.setPower x).time = s.time := rfl
@[simp] theorem setPower_lineup (x : Power) : (s.setPower x).lineup = s.lineup := rfl
@[simp] theorem setPower_staging (x : Power) : (s.setPower x).staging = s.staging := rfl
@[simp] theorem setPower_guide (x : Power) : (s.setPower x).guide = s.guide := rfl
@[simp] theorem setPower_inputs (x : Power) : (s.setPower x).inputs = s.inputs := rfl
@[simp] theorem setPower_claimQueue (x : Power) : (s.setPower x).claimQueue = s.claimQueue := rfl
@[simp] theorem setPower_paths (x : Power) : (s.setPower x).paths = s.paths := rfl
@[simp] theorem setPower_access (x : Power) : (s.setPower x).access = s.access := rfl
@[simp] theorem setPower_card (x : Power) : (s.setPower x).card = s.card := rfl
@[simp] theorem setPower_parental (x : Power) : (s.setPower x).parental = s.parental := rfl
@[simp] theorem setPower_jobs (x : Power) : (s.setPower x).jobs = s.jobs := rfl
@[simp] theorem setPower_power (x : Power) : (s.setPower x).power = x := rfl
@[simp] theorem setPower_store (x : Power) : (s.setPower x).store = s.store := rfl
@[simp] theorem setPower_agents (x : Power) : (s.setPower x).agents = s.agents := rfl
@[simp] theorem setPower_lead (x : Power) : (s.setPower x).lead = s.lead := rfl
@[simp] theorem setPower_leadNotices (x : Power) : (s.setPower x).leadNotices = s.leadNotices := rfl
@[simp] theorem setPower_noticeMap (x : Power) : (s.setPower x).noticeMap = s.noticeMap := rfl
@[simp] theorem setPower_sent (x : Power) : (s.setPower x).sent = s.sent := rfl
@[simp] theorem setPower_gatesDue (x : Power) : (s.setPower x).gatesDue = s.gatesDue := rfl
@[simp] theorem setPower_pending (x : Power) : (s.setPower x).pending = s.pending := rfl
@[simp] theorem setPower_path (x : Power) (p : PathNo) : (s.setPower x).path p = s.path p := rfl
@[simp] theorem setPower_input (x : Power) (i : InputNo) : (s.setPower x).input i = s.input i := rfl
@[simp] theorem setPower_link (x : Power) (a : Agent) : (s.setPower x).link a = s.link a := rfl

/-! ### setStore -/

@[simp] theorem setStore_localCount (x : Store) : (s.setStore x).localCount = s.localCount := rfl
@[simp] theorem setStore_time (x : Store) : (s.setStore x).time = s.time := rfl
@[simp] theorem setStore_lineup (x : Store) : (s.setStore x).lineup = s.lineup := rfl
@[simp] theorem setStore_staging (x : Store) : (s.setStore x).staging = s.staging := rfl
@[simp] theorem setStore_guide (x : Store) : (s.setStore x).guide = s.guide := rfl
@[simp] theorem setStore_inputs (x : Store) : (s.setStore x).inputs = s.inputs := rfl
@[simp] theorem setStore_claimQueue (x : Store) : (s.setStore x).claimQueue = s.claimQueue := rfl
@[simp] theorem setStore_paths (x : Store) : (s.setStore x).paths = s.paths := rfl
@[simp] theorem setStore_access (x : Store) : (s.setStore x).access = s.access := rfl
@[simp] theorem setStore_card (x : Store) : (s.setStore x).card = s.card := rfl
@[simp] theorem setStore_parental (x : Store) : (s.setStore x).parental = s.parental := rfl
@[simp] theorem setStore_jobs (x : Store) : (s.setStore x).jobs = s.jobs := rfl
@[simp] theorem setStore_power (x : Store) : (s.setStore x).power = s.power := rfl
@[simp] theorem setStore_store (x : Store) : (s.setStore x).store = x := rfl
@[simp] theorem setStore_agents (x : Store) : (s.setStore x).agents = s.agents := rfl
@[simp] theorem setStore_lead (x : Store) : (s.setStore x).lead = s.lead := rfl
@[simp] theorem setStore_leadNotices (x : Store) : (s.setStore x).leadNotices = s.leadNotices := rfl
@[simp] theorem setStore_noticeMap (x : Store) : (s.setStore x).noticeMap = s.noticeMap := rfl
@[simp] theorem setStore_sent (x : Store) : (s.setStore x).sent = s.sent := rfl
@[simp] theorem setStore_gatesDue (x : Store) : (s.setStore x).gatesDue = s.gatesDue := rfl
@[simp] theorem setStore_pending (x : Store) : (s.setStore x).pending = s.pending := rfl
@[simp] theorem setStore_path (x : Store) (p : PathNo) : (s.setStore x).path p = s.path p := rfl
@[simp] theorem setStore_input (x : Store) (i : InputNo) : (s.setStore x).input i = s.input i := rfl
@[simp] theorem setStore_link (x : Store) (a : Agent) : (s.setStore x).link a = s.link a := rfl

/-! ### setAgents -/

@[simp] theorem setAgents_localCount (x : PerAgent Link) : (s.setAgents x).localCount = s.localCount := rfl
@[simp] theorem setAgents_time (x : PerAgent Link) : (s.setAgents x).time = s.time := rfl
@[simp] theorem setAgents_lineup (x : PerAgent Link) : (s.setAgents x).lineup = s.lineup := rfl
@[simp] theorem setAgents_staging (x : PerAgent Link) : (s.setAgents x).staging = s.staging := rfl
@[simp] theorem setAgents_guide (x : PerAgent Link) : (s.setAgents x).guide = s.guide := rfl
@[simp] theorem setAgents_inputs (x : PerAgent Link) : (s.setAgents x).inputs = s.inputs := rfl
@[simp] theorem setAgents_claimQueue (x : PerAgent Link) : (s.setAgents x).claimQueue = s.claimQueue := rfl
@[simp] theorem setAgents_paths (x : PerAgent Link) : (s.setAgents x).paths = s.paths := rfl
@[simp] theorem setAgents_access (x : PerAgent Link) : (s.setAgents x).access = s.access := rfl
@[simp] theorem setAgents_card (x : PerAgent Link) : (s.setAgents x).card = s.card := rfl
@[simp] theorem setAgents_parental (x : PerAgent Link) : (s.setAgents x).parental = s.parental := rfl
@[simp] theorem setAgents_jobs (x : PerAgent Link) : (s.setAgents x).jobs = s.jobs := rfl
@[simp] theorem setAgents_power (x : PerAgent Link) : (s.setAgents x).power = s.power := rfl
@[simp] theorem setAgents_store (x : PerAgent Link) : (s.setAgents x).store = s.store := rfl
@[simp] theorem setAgents_agents (x : PerAgent Link) : (s.setAgents x).agents = x := rfl
@[simp] theorem setAgents_lead (x : PerAgent Link) : (s.setAgents x).lead = s.lead := rfl
@[simp] theorem setAgents_leadNotices (x : PerAgent Link) : (s.setAgents x).leadNotices = s.leadNotices := rfl
@[simp] theorem setAgents_noticeMap (x : PerAgent Link) : (s.setAgents x).noticeMap = s.noticeMap := rfl
@[simp] theorem setAgents_sent (x : PerAgent Link) : (s.setAgents x).sent = s.sent := rfl
@[simp] theorem setAgents_gatesDue (x : PerAgent Link) : (s.setAgents x).gatesDue = s.gatesDue := rfl
@[simp] theorem setAgents_pending (x : PerAgent Link) : (s.setAgents x).pending = s.pending := rfl
@[simp] theorem setAgents_path (x : PerAgent Link) (p : PathNo) : (s.setAgents x).path p = s.path p := rfl
@[simp] theorem setAgents_input (x : PerAgent Link) (i : InputNo) : (s.setAgents x).input i = s.input i := rfl

/-! ### setLead -/

@[simp] theorem setLead_localCount (x : Option Agent) : (s.setLead x).localCount = s.localCount := rfl
@[simp] theorem setLead_time (x : Option Agent) : (s.setLead x).time = s.time := rfl
@[simp] theorem setLead_lineup (x : Option Agent) : (s.setLead x).lineup = s.lineup := rfl
@[simp] theorem setLead_staging (x : Option Agent) : (s.setLead x).staging = s.staging := rfl
@[simp] theorem setLead_guide (x : Option Agent) : (s.setLead x).guide = s.guide := rfl
@[simp] theorem setLead_inputs (x : Option Agent) : (s.setLead x).inputs = s.inputs := rfl
@[simp] theorem setLead_claimQueue (x : Option Agent) : (s.setLead x).claimQueue = s.claimQueue := rfl
@[simp] theorem setLead_paths (x : Option Agent) : (s.setLead x).paths = s.paths := rfl
@[simp] theorem setLead_access (x : Option Agent) : (s.setLead x).access = s.access := rfl
@[simp] theorem setLead_card (x : Option Agent) : (s.setLead x).card = s.card := rfl
@[simp] theorem setLead_parental (x : Option Agent) : (s.setLead x).parental = s.parental := rfl
@[simp] theorem setLead_jobs (x : Option Agent) : (s.setLead x).jobs = s.jobs := rfl
@[simp] theorem setLead_power (x : Option Agent) : (s.setLead x).power = s.power := rfl
@[simp] theorem setLead_store (x : Option Agent) : (s.setLead x).store = s.store := rfl
@[simp] theorem setLead_agents (x : Option Agent) : (s.setLead x).agents = s.agents := rfl
@[simp] theorem setLead_lead (x : Option Agent) : (s.setLead x).lead = x := rfl
@[simp] theorem setLead_leadNotices (x : Option Agent) : (s.setLead x).leadNotices = s.leadNotices := rfl
@[simp] theorem setLead_noticeMap (x : Option Agent) : (s.setLead x).noticeMap = s.noticeMap := rfl
@[simp] theorem setLead_sent (x : Option Agent) : (s.setLead x).sent = s.sent := rfl
@[simp] theorem setLead_gatesDue (x : Option Agent) : (s.setLead x).gatesDue = s.gatesDue := rfl
@[simp] theorem setLead_pending (x : Option Agent) : (s.setLead x).pending = s.pending := rfl
@[simp] theorem setLead_path (x : Option Agent) (p : PathNo) : (s.setLead x).path p = s.path p := rfl
@[simp] theorem setLead_input (x : Option Agent) (i : InputNo) : (s.setLead x).input i = s.input i := rfl
@[simp] theorem setLead_link (x : Option Agent) (a : Agent) : (s.setLead x).link a = s.link a := rfl

/-! ### setLeadNotices -/

@[simp] theorem setLeadNotices_localCount (x : List NoticeClass) : (s.setLeadNotices x).localCount = s.localCount := rfl
@[simp] theorem setLeadNotices_time (x : List NoticeClass) : (s.setLeadNotices x).time = s.time := rfl
@[simp] theorem setLeadNotices_lineup (x : List NoticeClass) : (s.setLeadNotices x).lineup = s.lineup := rfl
@[simp] theorem setLeadNotices_staging (x : List NoticeClass) : (s.setLeadNotices x).staging = s.staging := rfl
@[simp] theorem setLeadNotices_guide (x : List NoticeClass) : (s.setLeadNotices x).guide = s.guide := rfl
@[simp] theorem setLeadNotices_inputs (x : List NoticeClass) : (s.setLeadNotices x).inputs = s.inputs := rfl
@[simp] theorem setLeadNotices_claimQueue (x : List NoticeClass) : (s.setLeadNotices x).claimQueue = s.claimQueue := rfl
@[simp] theorem setLeadNotices_paths (x : List NoticeClass) : (s.setLeadNotices x).paths = s.paths := rfl
@[simp] theorem setLeadNotices_access (x : List NoticeClass) : (s.setLeadNotices x).access = s.access := rfl
@[simp] theorem setLeadNotices_card (x : List NoticeClass) : (s.setLeadNotices x).card = s.card := rfl
@[simp] theorem setLeadNotices_parental (x : List NoticeClass) : (s.setLeadNotices x).parental = s.parental := rfl
@[simp] theorem setLeadNotices_jobs (x : List NoticeClass) : (s.setLeadNotices x).jobs = s.jobs := rfl
@[simp] theorem setLeadNotices_power (x : List NoticeClass) : (s.setLeadNotices x).power = s.power := rfl
@[simp] theorem setLeadNotices_store (x : List NoticeClass) : (s.setLeadNotices x).store = s.store := rfl
@[simp] theorem setLeadNotices_agents (x : List NoticeClass) : (s.setLeadNotices x).agents = s.agents := rfl
@[simp] theorem setLeadNotices_lead (x : List NoticeClass) : (s.setLeadNotices x).lead = s.lead := rfl
@[simp] theorem setLeadNotices_leadNotices (x : List NoticeClass) : (s.setLeadNotices x).leadNotices = x := rfl
@[simp] theorem setLeadNotices_noticeMap (x : List NoticeClass) : (s.setLeadNotices x).noticeMap = s.noticeMap := rfl
@[simp] theorem setLeadNotices_sent (x : List NoticeClass) : (s.setLeadNotices x).sent = s.sent := rfl
@[simp] theorem setLeadNotices_gatesDue (x : List NoticeClass) : (s.setLeadNotices x).gatesDue = s.gatesDue := rfl
@[simp] theorem setLeadNotices_pending (x : List NoticeClass) : (s.setLeadNotices x).pending = s.pending := rfl
@[simp] theorem setLeadNotices_path (x : List NoticeClass) (p : PathNo) : (s.setLeadNotices x).path p = s.path p := rfl
@[simp] theorem setLeadNotices_input (x : List NoticeClass) (i : InputNo) : (s.setLeadNotices x).input i = s.input i := rfl
@[simp] theorem setLeadNotices_link (x : List NoticeClass) (a : Agent) : (s.setLeadNotices x).link a = s.link a := rfl

/-! ### setNoticeMap -/

@[simp] theorem setNoticeMap_localCount (x : NoticeMap) : (s.setNoticeMap x).localCount = s.localCount := rfl
@[simp] theorem setNoticeMap_time (x : NoticeMap) : (s.setNoticeMap x).time = s.time := rfl
@[simp] theorem setNoticeMap_lineup (x : NoticeMap) : (s.setNoticeMap x).lineup = s.lineup := rfl
@[simp] theorem setNoticeMap_staging (x : NoticeMap) : (s.setNoticeMap x).staging = s.staging := rfl
@[simp] theorem setNoticeMap_guide (x : NoticeMap) : (s.setNoticeMap x).guide = s.guide := rfl
@[simp] theorem setNoticeMap_inputs (x : NoticeMap) : (s.setNoticeMap x).inputs = s.inputs := rfl
@[simp] theorem setNoticeMap_claimQueue (x : NoticeMap) : (s.setNoticeMap x).claimQueue = s.claimQueue := rfl
@[simp] theorem setNoticeMap_paths (x : NoticeMap) : (s.setNoticeMap x).paths = s.paths := rfl
@[simp] theorem setNoticeMap_access (x : NoticeMap) : (s.setNoticeMap x).access = s.access := rfl
@[simp] theorem setNoticeMap_card (x : NoticeMap) : (s.setNoticeMap x).card = s.card := rfl
@[simp] theorem setNoticeMap_parental (x : NoticeMap) : (s.setNoticeMap x).parental = s.parental := rfl
@[simp] theorem setNoticeMap_jobs (x : NoticeMap) : (s.setNoticeMap x).jobs = s.jobs := rfl
@[simp] theorem setNoticeMap_power (x : NoticeMap) : (s.setNoticeMap x).power = s.power := rfl
@[simp] theorem setNoticeMap_store (x : NoticeMap) : (s.setNoticeMap x).store = s.store := rfl
@[simp] theorem setNoticeMap_agents (x : NoticeMap) : (s.setNoticeMap x).agents = s.agents := rfl
@[simp] theorem setNoticeMap_lead (x : NoticeMap) : (s.setNoticeMap x).lead = s.lead := rfl
@[simp] theorem setNoticeMap_leadNotices (x : NoticeMap) : (s.setNoticeMap x).leadNotices = s.leadNotices := rfl
@[simp] theorem setNoticeMap_noticeMap (x : NoticeMap) : (s.setNoticeMap x).noticeMap = x := rfl
@[simp] theorem setNoticeMap_sent (x : NoticeMap) : (s.setNoticeMap x).sent = s.sent := rfl
@[simp] theorem setNoticeMap_gatesDue (x : NoticeMap) : (s.setNoticeMap x).gatesDue = s.gatesDue := rfl
@[simp] theorem setNoticeMap_pending (x : NoticeMap) : (s.setNoticeMap x).pending = s.pending := rfl
@[simp] theorem setNoticeMap_path (x : NoticeMap) (p : PathNo) : (s.setNoticeMap x).path p = s.path p := rfl
@[simp] theorem setNoticeMap_input (x : NoticeMap) (i : InputNo) : (s.setNoticeMap x).input i = s.input i := rfl
@[simp] theorem setNoticeMap_link (x : NoticeMap) (a : Agent) : (s.setNoticeMap x).link a = s.link a := rfl

/-! ### setSent -/

@[simp] theorem setSent_localCount (x : List Sent) : (s.setSent x).localCount = s.localCount := rfl
@[simp] theorem setSent_time (x : List Sent) : (s.setSent x).time = s.time := rfl
@[simp] theorem setSent_lineup (x : List Sent) : (s.setSent x).lineup = s.lineup := rfl
@[simp] theorem setSent_staging (x : List Sent) : (s.setSent x).staging = s.staging := rfl
@[simp] theorem setSent_guide (x : List Sent) : (s.setSent x).guide = s.guide := rfl
@[simp] theorem setSent_inputs (x : List Sent) : (s.setSent x).inputs = s.inputs := rfl
@[simp] theorem setSent_claimQueue (x : List Sent) : (s.setSent x).claimQueue = s.claimQueue := rfl
@[simp] theorem setSent_paths (x : List Sent) : (s.setSent x).paths = s.paths := rfl
@[simp] theorem setSent_access (x : List Sent) : (s.setSent x).access = s.access := rfl
@[simp] theorem setSent_card (x : List Sent) : (s.setSent x).card = s.card := rfl
@[simp] theorem setSent_parental (x : List Sent) : (s.setSent x).parental = s.parental := rfl
@[simp] theorem setSent_jobs (x : List Sent) : (s.setSent x).jobs = s.jobs := rfl
@[simp] theorem setSent_power (x : List Sent) : (s.setSent x).power = s.power := rfl
@[simp] theorem setSent_store (x : List Sent) : (s.setSent x).store = s.store := rfl
@[simp] theorem setSent_agents (x : List Sent) : (s.setSent x).agents = s.agents := rfl
@[simp] theorem setSent_lead (x : List Sent) : (s.setSent x).lead = s.lead := rfl
@[simp] theorem setSent_leadNotices (x : List Sent) : (s.setSent x).leadNotices = s.leadNotices := rfl
@[simp] theorem setSent_noticeMap (x : List Sent) : (s.setSent x).noticeMap = s.noticeMap := rfl
@[simp] theorem setSent_sent (x : List Sent) : (s.setSent x).sent = x := rfl
@[simp] theorem setSent_gatesDue (x : List Sent) : (s.setSent x).gatesDue = s.gatesDue := rfl
@[simp] theorem setSent_pending (x : List Sent) : (s.setSent x).pending = s.pending := rfl
@[simp] theorem setSent_path (x : List Sent) (p : PathNo) : (s.setSent x).path p = s.path p := rfl
@[simp] theorem setSent_input (x : List Sent) (i : InputNo) : (s.setSent x).input i = s.input i := rfl
@[simp] theorem setSent_link (x : List Sent) (a : Agent) : (s.setSent x).link a = s.link a := rfl

/-! ### setGatesDue -/

@[simp] theorem setGatesDue_localCount (x : List PathNo) : (s.setGatesDue x).localCount = s.localCount := rfl
@[simp] theorem setGatesDue_time (x : List PathNo) : (s.setGatesDue x).time = s.time := rfl
@[simp] theorem setGatesDue_lineup (x : List PathNo) : (s.setGatesDue x).lineup = s.lineup := rfl
@[simp] theorem setGatesDue_staging (x : List PathNo) : (s.setGatesDue x).staging = s.staging := rfl
@[simp] theorem setGatesDue_guide (x : List PathNo) : (s.setGatesDue x).guide = s.guide := rfl
@[simp] theorem setGatesDue_inputs (x : List PathNo) : (s.setGatesDue x).inputs = s.inputs := rfl
@[simp] theorem setGatesDue_claimQueue (x : List PathNo) : (s.setGatesDue x).claimQueue = s.claimQueue := rfl
@[simp] theorem setGatesDue_paths (x : List PathNo) : (s.setGatesDue x).paths = s.paths := rfl
@[simp] theorem setGatesDue_access (x : List PathNo) : (s.setGatesDue x).access = s.access := rfl
@[simp] theorem setGatesDue_card (x : List PathNo) : (s.setGatesDue x).card = s.card := rfl
@[simp] theorem setGatesDue_parental (x : List PathNo) : (s.setGatesDue x).parental = s.parental := rfl
@[simp] theorem setGatesDue_jobs (x : List PathNo) : (s.setGatesDue x).jobs = s.jobs := rfl
@[simp] theorem setGatesDue_power (x : List PathNo) : (s.setGatesDue x).power = s.power := rfl
@[simp] theorem setGatesDue_store (x : List PathNo) : (s.setGatesDue x).store = s.store := rfl
@[simp] theorem setGatesDue_agents (x : List PathNo) : (s.setGatesDue x).agents = s.agents := rfl
@[simp] theorem setGatesDue_lead (x : List PathNo) : (s.setGatesDue x).lead = s.lead := rfl
@[simp] theorem setGatesDue_leadNotices (x : List PathNo) : (s.setGatesDue x).leadNotices = s.leadNotices := rfl
@[simp] theorem setGatesDue_noticeMap (x : List PathNo) : (s.setGatesDue x).noticeMap = s.noticeMap := rfl
@[simp] theorem setGatesDue_sent (x : List PathNo) : (s.setGatesDue x).sent = s.sent := rfl
@[simp] theorem setGatesDue_gatesDue (x : List PathNo) : (s.setGatesDue x).gatesDue = x := rfl
@[simp] theorem setGatesDue_pending (x : List PathNo) : (s.setGatesDue x).pending = s.pending := rfl
@[simp] theorem setGatesDue_path (x : List PathNo) (p : PathNo) : (s.setGatesDue x).path p = s.path p := rfl
@[simp] theorem setGatesDue_input (x : List PathNo) (i : InputNo) : (s.setGatesDue x).input i = s.input i := rfl
@[simp] theorem setGatesDue_link (x : List PathNo) (a : Agent) : (s.setGatesDue x).link a = s.link a := rfl

/-! ### setPending -/

@[simp] theorem setPending_localCount (x : List Instr) : (s.setPending x).localCount = s.localCount := rfl
@[simp] theorem setPending_time (x : List Instr) : (s.setPending x).time = s.time := rfl
@[simp] theorem setPending_lineup (x : List Instr) : (s.setPending x).lineup = s.lineup := rfl
@[simp] theorem setPending_staging (x : List Instr) : (s.setPending x).staging = s.staging := rfl
@[simp] theorem setPending_guide (x : List Instr) : (s.setPending x).guide = s.guide := rfl
@[simp] theorem setPending_inputs (x : List Instr) : (s.setPending x).inputs = s.inputs := rfl
@[simp] theorem setPending_claimQueue (x : List Instr) : (s.setPending x).claimQueue = s.claimQueue := rfl
@[simp] theorem setPending_paths (x : List Instr) : (s.setPending x).paths = s.paths := rfl
@[simp] theorem setPending_access (x : List Instr) : (s.setPending x).access = s.access := rfl
@[simp] theorem setPending_card (x : List Instr) : (s.setPending x).card = s.card := rfl
@[simp] theorem setPending_parental (x : List Instr) : (s.setPending x).parental = s.parental := rfl
@[simp] theorem setPending_jobs (x : List Instr) : (s.setPending x).jobs = s.jobs := rfl
@[simp] theorem setPending_power (x : List Instr) : (s.setPending x).power = s.power := rfl
@[simp] theorem setPending_store (x : List Instr) : (s.setPending x).store = s.store := rfl
@[simp] theorem setPending_agents (x : List Instr) : (s.setPending x).agents = s.agents := rfl
@[simp] theorem setPending_lead (x : List Instr) : (s.setPending x).lead = s.lead := rfl
@[simp] theorem setPending_leadNotices (x : List Instr) : (s.setPending x).leadNotices = s.leadNotices := rfl
@[simp] theorem setPending_noticeMap (x : List Instr) : (s.setPending x).noticeMap = s.noticeMap := rfl
@[simp] theorem setPending_sent (x : List Instr) : (s.setPending x).sent = s.sent := rfl
@[simp] theorem setPending_gatesDue (x : List Instr) : (s.setPending x).gatesDue = s.gatesDue := rfl
@[simp] theorem setPending_pending (x : List Instr) : (s.setPending x).pending = x := rfl
@[simp] theorem setPending_path (x : List Instr) (p : PathNo) : (s.setPending x).path p = s.path p := rfl
@[simp] theorem setPending_input (x : List Instr) (i : InputNo) : (s.setPending x).input i = s.input i := rfl
@[simp] theorem setPending_link (x : List Instr) (a : Agent) : (s.setPending x).link a = s.link a := rfl

/-! ### Indexed registers -/

@[simp] theorem PerAgent.get_put {α : Type} (x : PerAgent α) (a b : Agent) (v : α) :
    (x.put a v).get b = if b = a then v else x.get b := by
  cases a <;> cases b <;> rfl

@[simp] theorem setLink_link (a b : Agent) (l : Link) :
    (s.setLink a l).link b = if b = a then l else s.link b := by
  simp [State.setLink, State.link]

@[simp] theorem setPath_path (p q : PathNo) (x : Path) :
    (s.setPath p x).path q = if q = p then x else s.path q := by
  show (s.paths.set p.val x p.isLt)[q.val] = if q = p then x else s.paths[q.val]
  rw [Vector.getElem_set]
  simp only [Fin.ext_iff, eq_comm]

@[simp] theorem setInput_input (i j : InputNo) (x : CarrierInput) :
    (s.setInput i x).input j = if j = i then x else s.input j := by
  show (s.inputs.set i.val x i.isLt)[j.val] = if j = i then x else s.inputs[j.val]
  rw [Vector.getElem_set]
  simp only [Fin.ext_iff, eq_comm]

@[simp] theorem onPath_path (p q : PathNo) (f : Path → Path) :
    (s.onPath p f).path q = if q = p then f (s.path p) else s.path q := by
  simp [State.onPath]

@[simp] theorem onInput_input (i j : InputNo) (f : CarrierInput → CarrierInput) :
    (s.onInput i f).input j = if j = i then f (s.input i) else s.input j := by
  simp [State.onInput]

@[simp] theorem onCard_card (f : CardLink → CardLink) : (s.onCard f).card = f s.card := rfl
@[simp] theorem onAccess_access (f : Access → Access) : (s.onAccess f).access = f s.access := rfl
@[simp] theorem onParental_parental (f : Parental → Parental) :
    (s.onParental f).parental = f s.parental := rfl
@[simp] theorem send_sent (x : Sent) : (send x s).sent = s.sent ++ [x] := rfl

end Sys2Proof.Machine
end

