-- ==== Sys2Proof/Laws/Only.lean ====
section
/-! SUPPORT. The laws of `Only`, which says what an operation can change: how two operations compose, and
one lemma per setter. The lemmas per operation are in Laws/Touch.lean. -/

set_option Elab.async false

namespace Sys2Proof.Machine

theorem Same.refl (s : State) (f : Field) : Same s s f := by cases f <;> rfl

theorem Same.trans {s t u : State} {f : Field} (h : Same s t f) (k : Same t u f) : Same s u f := by
  cases f <;> exact Eq.trans k h

theorem Only.refl (fs : List Field) (s : State) : Only fs s s := fun f _ => Same.refl s f

theorem Only.mono {fs gs : List Field} {s t : State} (h : Only fs s t)
    (sub : ∀ f, f ∈ fs → f ∈ gs := by decide) : Only gs s t :=
  fun f hf => h f fun hm => hf (sub f hm)

theorem Only.trans {fs : List Field} {s t u : State} (h : Only fs s t) (k : Only fs t u) :
    Only fs s u := fun f hf => (h f hf).trans (k f hf)

/-- Two operations one after the other change what either can. -/
theorem Only.comp {fs gs hs : List Field} {s t u : State} (h : Only fs s t) (k : Only gs t u)
    (hf : ∀ f, f ∈ fs → f ∈ hs := by decide) (hg : ∀ f, f ∈ gs → f ∈ hs := by decide) :
    Only hs s u := (h.mono hf).trans (k.mono hg)

theorem Only.forEach {α : Type} {fs : List Field} {f : α → State → State}
    (h : ∀ x s, Only fs s (f x s)) (xs : List α) (s : State) : Only fs s (forEach xs f s) := by
  induction xs generalizing s with
  | nil => exact Only.refl fs s
  | cons x xs ih => exact (h x s).trans (ih (f x s))

theorem Only.ite {fs : List Field} {s t u : State} {c : Prop} [Decidable c] (h : c → Only fs s t)
    (k : ¬c → Only fs s u) : Only fs s (if c then t else u) := by
  split
  · exact h ‹_›
  · exact k ‹_›

theorem setCount_only (s : State) (x : Count) : Only [.localCount] s (s.setCount x) := by
  intro f hf; cases f <;> first | rfl | exact absurd (List.mem_singleton.2 rfl) hf

theorem setTime_only (s : State) (x : TimeBase) : Only [.time] s (s.setTime x) := by
  intro f hf; cases f <;> first | rfl | exact absurd (List.mem_singleton.2 rfl) hf

theorem setLineup_only (s : State) (x : Lineup) : Only [.lineup] s (s.setLineup x) := by
  intro f hf; cases f <;> first | rfl | exact absurd (List.mem_singleton.2 rfl) hf

theorem setStaging_only (s : State) (x : Option Lineup) : Only [.staging] s (s.setStaging x) := by
  intro f hf; cases f <;> first | rfl | exact absurd (List.mem_singleton.2 rfl) hf

theorem setGuide_only (s : State) (x : Guide) : Only [.guide] s (s.setGuide x) := by
  intro f hf; cases f <;> first | rfl | exact absurd (List.mem_singleton.2 rfl) hf

theorem setInputs_only (s : State) (x : Vector CarrierInput 4) : Only [.inputs] s (s.setInputs x) := by
  intro f hf; cases f <;> first | rfl | exact absurd (List.mem_singleton.2 rfl) hf

theorem setClaimQueue_only (s : State) (x : List PathNo) : Only [.claimQueue] s (s.setClaimQueue x) := by
  intro f hf; cases f <;> first | rfl | exact absurd (List.mem_singleton.2 rfl) hf

theorem setPaths_only (s : State) (x : Vector Path 6) : Only [.paths] s (s.setPaths x) := by
  intro f hf; cases f <;> first | rfl | exact absurd (List.mem_singleton.2 rfl) hf

theorem setAccess_only (s : State) (x : Access) : Only [.access] s (s.setAccess x) := by
  intro f hf; cases f <;> first | rfl | exact absurd (List.mem_singleton.2 rfl) hf

theorem setCard_only (s : State) (x : CardLink) : Only [.card] s (s.setCard x) := by
  intro f hf; cases f <;> first | rfl | exact absurd (List.mem_singleton.2 rfl) hf

theorem setParental_only (s : State) (x : Parental) : Only [.parental] s (s.setParental x) := by
  intro f hf; cases f <;> first | rfl | exact absurd (List.mem_singleton.2 rfl) hf

theorem setJobs_only (s : State) (x : Jobs) : Only [.jobs] s (s.setJobs x) := by
  intro f hf; cases f <;> first | rfl | exact absurd (List.mem_singleton.2 rfl) hf

theorem setPower_only (s : State) (x : Power) : Only [.power] s (s.setPower x) := by
  intro f hf; cases f <;> first | rfl | exact absurd (List.mem_singleton.2 rfl) hf

theorem setStore_only (s : State) (x : Store) : Only [.store] s (s.setStore x) := by
  intro f hf; cases f <;> first | rfl | exact absurd (List.mem_singleton.2 rfl) hf

theorem setAgents_only (s : State) (x : PerAgent Link) : Only [.agents] s (s.setAgents x) := by
  intro f hf; cases f <;> first | rfl | exact absurd (List.mem_singleton.2 rfl) hf

theorem setLead_only (s : State) (x : Option Agent) : Only [.lead] s (s.setLead x) := by
  intro f hf; cases f <;> first | rfl | exact absurd (List.mem_singleton.2 rfl) hf

theorem setLeadNotices_only (s : State) (x : List NoticeClass) : Only [.leadNotices] s (s.setLeadNotices x) := by
  intro f hf; cases f <;> first | rfl | exact absurd (List.mem_singleton.2 rfl) hf

theorem setNoticeMap_only (s : State) (x : NoticeMap) : Only [.noticeMap] s (s.setNoticeMap x) := by
  intro f hf; cases f <;> first | rfl | exact absurd (List.mem_singleton.2 rfl) hf

theorem setSent_only (s : State) (x : List Sent) : Only [.sent] s (s.setSent x) := by
  intro f hf; cases f <;> first | rfl | exact absurd (List.mem_singleton.2 rfl) hf

theorem setGatesDue_only (s : State) (x : List PathNo) : Only [.gatesDue] s (s.setGatesDue x) := by
  intro f hf; cases f <;> first | rfl | exact absurd (List.mem_singleton.2 rfl) hf

theorem setPending_only (s : State) (x : List Instr) : Only [.pending] s (s.setPending x) := by
  intro f hf; cases f <;> first | rfl | exact absurd (List.mem_singleton.2 rfl) hf

theorem Only.localCount {fs : List Field} {s t : State} (h : Only fs s t)
    (n : Field.localCount ∉ fs := by decide) : t.localCount = s.localCount := h .localCount n

theorem Only.time {fs : List Field} {s t : State} (h : Only fs s t)
    (n : Field.time ∉ fs := by decide) : t.time = s.time := h .time n

theorem Only.lineup {fs : List Field} {s t : State} (h : Only fs s t)
    (n : Field.lineup ∉ fs := by decide) : t.lineup = s.lineup := h .lineup n

theorem Only.staging {fs : List Field} {s t : State} (h : Only fs s t)
    (n : Field.staging ∉ fs := by decide) : t.staging = s.staging := h .staging n

theorem Only.guide {fs : List Field} {s t : State} (h : Only fs s t)
    (n : Field.guide ∉ fs := by decide) : t.guide = s.guide := h .guide n

theorem Only.inputs {fs : List Field} {s t : State} (h : Only fs s t)
    (n : Field.inputs ∉ fs := by decide) : t.inputs = s.inputs := h .inputs n

theorem Only.claimQueue {fs : List Field} {s t : State} (h : Only fs s t)
    (n : Field.claimQueue ∉ fs := by decide) : t.claimQueue = s.claimQueue := h .claimQueue n

theorem Only.paths {fs : List Field} {s t : State} (h : Only fs s t)
    (n : Field.paths ∉ fs := by decide) : t.paths = s.paths := h .paths n

theorem Only.access {fs : List Field} {s t : State} (h : Only fs s t)
    (n : Field.access ∉ fs := by decide) : t.access = s.access := h .access n

theorem Only.card {fs : List Field} {s t : State} (h : Only fs s t)
    (n : Field.card ∉ fs := by decide) : t.card = s.card := h .card n

theorem Only.parental {fs : List Field} {s t : State} (h : Only fs s t)
    (n : Field.parental ∉ fs := by decide) : t.parental = s.parental := h .parental n

theorem Only.jobs {fs : List Field} {s t : State} (h : Only fs s t)
    (n : Field.jobs ∉ fs := by decide) : t.jobs = s.jobs := h .jobs n

theorem Only.power {fs : List Field} {s t : State} (h : Only fs s t)
    (n : Field.power ∉ fs := by decide) : t.power = s.power := h .power n

theorem Only.store {fs : List Field} {s t : State} (h : Only fs s t)
    (n : Field.store ∉ fs := by decide) : t.store = s.store := h .store n

theorem Only.agents {fs : List Field} {s t : State} (h : Only fs s t)
    (n : Field.agents ∉ fs := by decide) : t.agents = s.agents := h .agents n

theorem Only.lead {fs : List Field} {s t : State} (h : Only fs s t)
    (n : Field.lead ∉ fs := by decide) : t.lead = s.lead := h .lead n

theorem Only.leadNotices {fs : List Field} {s t : State} (h : Only fs s t)
    (n : Field.leadNotices ∉ fs := by decide) : t.leadNotices = s.leadNotices := h .leadNotices n

theorem Only.noticeMap {fs : List Field} {s t : State} (h : Only fs s t)
    (n : Field.noticeMap ∉ fs := by decide) : t.noticeMap = s.noticeMap := h .noticeMap n

theorem Only.sent {fs : List Field} {s t : State} (h : Only fs s t)
    (n : Field.sent ∉ fs := by decide) : t.sent = s.sent := h .sent n

theorem Only.gatesDue {fs : List Field} {s t : State} (h : Only fs s t)
    (n : Field.gatesDue ∉ fs := by decide) : t.gatesDue = s.gatesDue := h .gatesDue n

theorem Only.pending {fs : List Field} {s t : State} (h : Only fs s t)
    (n : Field.pending ∉ fs := by decide) : t.pending = s.pending := h .pending n

end Sys2Proof.Machine
end

