-- ==== Sys2Proof/Laws/Touch.lean ====
section
/-! SUPPORT. For each shared operation one lemma: the fields it can change. A caller that needs another
field reads it off the lemma (`(gate_only p s).guide : (gate p s).guide = s.guide`). -/

set_option Elab.async false

namespace Sys2Proof.Machine

/-- What raising a notice changes. -/
abbrev fNotice : List Field := [.agents, .leadNotices]

/-- What marking the image dirty changes. -/
abbrev fMark : List Field := [.store, .sent]

/-- What a change of a stored item with its notice changes. -/
abbrev fChange : List Field := [.store, .sent, .agents, .leadNotices]

/-- What the Parental Unit's own operations change. -/
abbrev fMeter : List Field := [.parental, .store, .sent, .agents, .leadNotices, .gatesDue]

/-- What the paths, the inputs and the key slots change. -/
abbrev fPath : List Field :=
  [.time, .inputs, .claimQueue, .paths, .card, .parental, .jobs, .store, .agents, .leadNotices, .sent,
   .gatesDue]

/-- What an operation that may buy or apply a grant changes. -/
abbrev fAct : List Field :=
  [.time, .inputs, .claimQueue, .paths, .access, .card, .parental, .jobs, .store, .agents,
   .leadNotices, .sent, .gatesDue]

/-- What an announcement of the Time Base changes. -/
abbrev fTime : List Field :=
  [.time, .guide, .inputs, .claimQueue, .paths, .access, .card, .parental, .jobs, .store, .agents,
   .leadNotices, .sent, .gatesDue]

variable (s : State)

/-! ### Ops -/

theorem setLink_only (a : Agent) (x : Link) : Only [.agents] s (s.setLink a x) := setAgents_only s _
theorem setPath_only (p : PathNo) (x : Path) : Only [.paths] s (s.setPath p x) := setPaths_only s _
theorem setInput_only (i : InputNo) (x : CarrierInput) : Only [.inputs] s (s.setInput i x) :=
  setInputs_only s _
theorem onPath_only (p : PathNo) (f : Path → Path) : Only [.paths] s (s.onPath p f) := setPaths_only s _
theorem onInput_only (i : InputNo) (f : CarrierInput → CarrierInput) :
    Only [.inputs] s (s.onInput i f) := setInputs_only s _
theorem onCard_only (f : CardLink → CardLink) : Only [.card] s (s.onCard f) := setCard_only s _
theorem onAccess_only (f : Access → Access) : Only [.access] s (s.onAccess f) := setAccess_only s _
theorem onParental_only (f : Parental → Parental) : Only [.parental] s (s.onParental f) :=
  setParental_only s _
theorem send_only (x : Sent) : Only [.sent] s (send x s) := setSent_only s _

theorem markGate_only (p : PathNo) : Only [.gatesDue] s (markGate p s) := by
  unfold markGate; split
  · exact Only.refl _ s
  · exact setGatesDue_only s _

theorem markGates_only (ps : List PathNo) : Only [.gatesDue] s (markGates ps s) :=
  Only.forEach (fun p t => markGate_only t p) ps s

theorem markWhere_only (c : PathNo → Path → Bool) : Only [.gatesDue] s (markWhere c s) :=
  markGates_only s _

theorem markViews_only : Only [.gatesDue] s (markViews s) := markGates_only s _

theorem markService_only (sid : Nat) : Only [.gatesDue] s (markService sid s) := markGates_only s _

/-! ### Flags -/

theorem addToAgent_only (c : Link → Bool) (k : NoticeClass) (a : Agent) :
    Only [.agents] s (addToAgent c k a s) := by
  unfold addToAgent; simp only []; split
  · exact setLink_only s _ _
  · exact Only.refl _ s

theorem raise_only (c : NoticeClass) : Only fNotice s (raise c s) := by
  unfold raise; split
  · exact (Only.forEach (fun a t => addToAgent_only t _ _ a) allAgents s).mono
  · split
    · exact (addToAgent_only s _ _ _).mono
    · exact (setLeadNotices_only s _).mono
    · exact Only.refl _ s

theorem elect_only (out : Option Agent) : Only [.agents, .lead, .leadNotices] s (elect out s) := by
  unfold elect; split
  · exact (setLead_only s _).comp (raise_only _ _)
  · exact (setLead_only s _).mono

/-! ### Store -/

theorem beginWrite_only : Only fMark s (beginWrite s) := (setStore_only s _).comp (send_only _ _)

theorem markDirty_only (x : Sect) : Only fMark s (markDirty x s) := by
  unfold markDirty; simp only []; split
  · exact (setStore_only s _).comp (beginWrite_only _)
  · exact (setStore_only s _).mono
  · exact (setStore_only s _).mono

/-! ### ParentalOps -/

theorem pinCheck_only (g : Pin) (l : List Pin) :
    Only [.parental, .store, .sent, .agents, .leadNotices] s (pinCheck g l s).2 := by
  unfold pinCheck; simp only []; split
  · exact Only.refl _ s
  · split
    · split
      · exact (setParental_only s _).comp (markDirty_only _ _)
      · exact Only.refl _ s
    · split
      · exact (setParental_only s _).comp (markDirty_only _ _)
      · exact ((setParental_only s _).comp (hs := [.parental, .store, .sent])
          (markDirty_only _ _)).comp (raise_only _ _)

theorem addMinute_only : Only [.parental, .store, .sent, .gatesDue] s (addMinute s) := by
  have h := (setParental_only s
    (s.parental.setMeter s.parental.active
      { s.parental.activeMeter with used := s.parental.activeMeter.used + 1, partialMs := 0 })).comp
      (hs := [.parental, .store, .sent, .gatesDue]) (markDirty_only _ .parental)
  unfold addMinute; simp only []; split
  · exact h.trans (markViews_only _).mono
  · exact h

theorem startMeter_only : Only [.parental] s (startMeter s) := onParental_only s _

theorem stopMeter_only : Only [.parental, .store, .sent, .gatesDue] s (stopMeter s) := by
  unfold stopMeter; split
  · exact Only.refl _ s
  · simp only []; split
    · exact (setParental_only s _).comp (addMinute_only _)
    · exact (setParental_only s _).mono

theorem judgeWindow_only : Only [.parental, .gatesDue] s (judgeWindow s) := by
  unfold judgeWindow; simp only []; split
  · exact (onParental_only s _).mono
  · exact (onParental_only s _).comp (markViews_only _)

theorem setRollover_only : Only [.parental] s (setRollover s) := onParental_only s _

theorem rollover_only : Only fMeter s (rollover s) := by
  unfold rollover
  extract_lets r s1 s2 s3 s4
  have h1 : Only fMeter s s1 := (stopMeter_only s).mono
  have h2 : Only fMeter s s2 := h1.trans (onParental_only _ _).mono
  have h3 : Only fMeter s s3 := h2.trans (setRollover_only _).mono
  have h4 : Only fMeter s s4 :=
    h3.trans (Only.ite (fun _ => (startMeter_only _).mono) fun _ => Only.refl _ _)
  exact ((h4.trans (markDirty_only _ _).mono).trans (raise_only _ _).mono).trans (markViews_only _).mono

theorem rolloverIfDue_only : Only fMeter s (rolloverIfDue s) := by
  unfold rolloverIfDue; split
  · split
    · exact rollover_only s
    · exact (setRollover_only s).mono
  · exact Only.refl _ s

/-! ### AccessOps -/

theorem tierChange_only (ts : List Nat) :
    Only [.store, .sent, .agents, .leadNotices, .gatesDue] s (tierChange ts s) :=
  Only.trans (t := raise .access (markDirty .access s))
    ((markDirty_only s _).comp (raise_only _ _)) (markWhere_only _ _).mono

theorem refreshTierTimers_only : Only [.access] s (refreshTierTimers s) := onAccess_only s _

/-- What a change of the tier table or of the purchase list changes. -/
abbrev fAccess : List Field := [.access, .store, .sent, .agents, .leadNotices, .gatesDue]

theorem expireTiers_only : Only fAccess s (expireTiers s) := by
  unfold expireTiers; simp only []; split
  · exact ((onAccess_only s _).trans (refreshTierTimers_only _)).mono
  · exact ((onAccess_only s _).trans (refreshTierTimers_only _)).comp (tierChange_only _ _)

theorem removeRecords_only (c : PurchaseRecord → Bool) : Only fAccess s (removeRecords c s) := by
  unfold removeRecords; simp only []; split
  · exact (onAccess_only s _).mono
  · refine Only.trans (t := _) ?_ (Only.forEach (fun x t => markService_only t x) _ _).mono
    refine Only.trans (t := _) ?_ (raise_only _ _).mono
    exact (onAccess_only s _).comp (markDirty_only _ _)

theorem setEndTimers_only : Only [.access] s (setEndTimers s) := onAccess_only s _
theorem refreshEndTimers_only : Only [.access] s (refreshEndTimers s) := onAccess_only s _
theorem appendRecord_only (r : PurchaseRecord) : Only [.access] s (appendRecord r s) :=
  onAccess_only s _
theorem closeBatch_only : Only [.access] s (closeBatch s) := onAccess_only s _

theorem applyPurchase_only (sid : Nat) (e : GuideEvent) : Only fAccess s (applyPurchase sid e s) := by
  unfold applyPurchase
  refine Only.trans (t := _) ?_ (markService_only _ _).mono
  refine Only.trans (t := _) ?_ (raise_only _ _).mono
  exact ((onAccess_only s _).trans (appendRecord_only _ _)).comp (markDirty_only _ _)

theorem jobBuy_only (sid eid : Nat) : Only fAccess s (jobBuy sid eid s).2 := by
  unfold jobBuy; split
  · exact Only.refl _ s
  · split
    · exact Only.refl _ s
    · split
      · exact Only.refl _ s
      · split
        · exact Only.refl _ s
        · split
          · exact Only.refl _ s
          · exact applyPurchase_only s _ _

/-! ### PathOps -/

theorem updateJob_only (id : Nat) (f : Job → Job) : Only [.jobs] s (updateJob id f s) :=
  setJobs_only s _

theorem jobChanged_only : Only fChange s (jobChanged s) :=
  (markDirty_only s _).comp (raise_only _ _)

/-- What a change of a job record changes. -/
abbrev fJob : List Field := [.jobs, .store, .sent, .agents, .leadNotices]

theorem addInterruption_only (id : Nat) : Only fJob s (addInterruption id s) :=
  (updateJob_only s _ _).comp (jobChanged_only _)

theorem handToJob_only (p : PathNo) (old new : PathState) : Only fJob s (handToJob p old new s) := by
  unfold handToJob; split
  · exact Only.refl _ s
  · split
    · exact addInterruption_only s _
    · exact Only.refl _ s

theorem followMeter_only (b : Bool) : Only [.parental, .store, .sent, .gatesDue] s (followMeter b s) := by
  unfold followMeter; split
  · exact (startMeter_only s).mono
  · exact stopMeter_only s
  · exact Only.refl _ s

/-- What a change of a path's state changes. -/
abbrev fState : List Field :=
  [.paths, .parental, .jobs, .store, .agents, .leadNotices, .sent, .gatesDue]

theorem setPathState_only (p : PathNo) (new : PathState) : Only fState s (setPathState p new s) := by
  have h1 : Only fState s (raise .path (s.onPath p fun x => { x with state := new })) :=
    (onPath_only s _ _).comp (raise_only _ _)
  have h2 := h1.trans (Only.ite (c := ((s.path p).state.isDenied || new.isDenied) = true)
    (fun _ => (raise_only _ .access).mono) (fun _ => Only.refl _ _))
  exact Only.ite (fun _ => Only.refl _ s) fun _ =>
    Only.ite (fun _ => h2.trans (followMeter_only _ _).mono)
      fun _ => h2.trans (handToJob_only _ _ _ _).mono

theorem cancelUnwraps_only (p : PathNo) (phs : List Phase) : Only [.card] s (cancelUnwraps p phs s) :=
  onCard_only s _

theorem emptySlots_only (p : PathNo) : Only [.card, .paths] s (emptySlots p s) :=
  (cancelUnwraps_only s _ _).comp (onPath_only _ _ _)

theorem takeLookup_only (p : PathNo) : Only [.paths] s (takeLookup p s) := by
  unfold takeLookup; split
  · exact Only.refl _ s
  · exact onPath_only s _ _

/-! ### InputOps -/

theorem recomputeInBand_only : Only [.time] s (recomputeInBand s) := by
  unfold recomputeInBand; simp only []; split
  · exact Only.refl _ s
  · exact setTime_only s _

theorem sendTune_only (i : InputNo) (c : Nat) : Only [.inputs, .sent] s (sendTune i c s) := by
  unfold sendTune; simp only []; split
  · exact (onInput_only s _ _).comp (send_only _ _)
  · exact (onInput_only s _ _).mono

theorem tuneInto_only (i : InputNo) (c : Nat) : Only [.time, .inputs, .sent] s (tuneInto i c s) :=
  ((sendTune_only s i c).comp (hs := [.inputs, .sent]) (onInput_only _ _ _)).comp
    (recomputeInBand_only _)

theorem leaveQueue_only (p : PathNo) : Only [.claimQueue] s (leaveQueue p s) := setClaimQueue_only s _

theorem releaseInput_only (p : PathNo) : Only [.time, .inputs, .paths] s (releaseInput p s) := by
  unfold releaseInput; split
  · exact Only.refl _ s
  · simp only []; split
    · exact ((onPath_only s _ _).comp (hs := [.inputs, .paths]) (onInput_only _ _ _)).comp
        (recomputeInBand_only _)
    · exact (onPath_only s _ _).comp (onInput_only _ _ _)

theorem goIdle_only (p : PathNo) (r : IdleReason) : Only fPath s (goIdle p r s) := by
  unfold goIdle; split
  · simp only []
    refine Only.trans (t := _) ?_ (setPathState_only _ _ _).mono
    refine Only.trans (t := _) ?_ (onPath_only _ _ _).mono
    refine Only.trans (t := _) ?_ (leaveQueue_only _ _).mono
    exact (emptySlots_only s p).comp (releaseInput_only _ _)
  · exact Only.refl _ s

theorem takeSnapshot_only (p : PathNo) (v : Service) : Only [.paths, .gatesDue] s (takeSnapshot p v s) :=
  (onPath_only s _ _).comp (markGate_only _ _)

theorem reroute_only (p : PathNo) (snap v : Service) :
    Only [.card, .paths, .gatesDue] s (reroute p snap v s) := by
  unfold reroute; simp only []
  refine Only.trans (t := _) ?_ (takeSnapshot_only _ _ _).mono
  split
  · exact (emptySlots_only s p).mono
  · exact (emptySlots_only s p).comp (onPath_only _ _ _)

theorem compareDetached_only (p : PathNo) : Only fPath s (compareDetached p s) := by
  unfold compareDetached; split
  · exact Only.refl _ s
  · split
    · exact goIdle_only s _ _
    · exact (reroute_only s _ _ _).mono
    · exact (takeSnapshot_only s _ _).mono
    · exact Only.refl _ s

theorem joinQueue_only (p : PathNo) : Only fPath s (joinQueue p s) := by
  unfold joinQueue; simp only []
  refine Only.trans (t := _) ?_ (markGate_only _ _).mono
  split
  · exact (setPathState_only s _ _).mono
  · exact (setPathState_only s _ _).comp (setClaimQueue_only _ _)

theorem detach_only (p : PathNo) : Only fPath s (detach p s) := by
  have h : Only fPath s (s.onPath p fun x => { x with heldInput := none }) := (onPath_only s _ _).mono
  have h2 := h.trans (Only.ite (c := decide ((s.path p).state = .tuning) = true)
    (fun _ => compareDetached_only _ p) (fun _ => Only.refl _ _))
  exact Only.ite (fun _ => h2.trans (joinQueue_only _ _)) fun _ => h2

theorem giveInput_only (i : InputNo) (c : Nat) (p : PathNo) :
    Only [.time, .inputs, .paths, .sent, .gatesDue] s (giveInput i c p s) := by
  unfold giveInput; simp only []
  refine Only.trans (t := _) ?_ (markGate_only _ _).mono
  refine Only.trans (t := _) ?_ (tuneInto_only _ _ _).mono
  exact (onPath_only s _ _).comp (onInput_only _ _ _)

theorem preempt_only (p : PathNo) (c : Nat) : Only fPath s (preempt p c s) := by
  unfold preempt; split
  · exact (markGate_only s _).mono
  · exact (Only.forEach (fun q t => detach_only t q) _ s).trans (giveInput_only _ _ _ _).mono

theorem joinInput_only (i : InputNo) (p : PathNo) :
    Only [.inputs, .paths, .gatesDue] s (joinInput i p s) := by
  unfold joinInput; simp only []
  refine Only.trans (t := _) ?_ (markGate_only _ _).mono
  exact (onPath_only s _ _).comp (onInput_only _ _ _)

theorem claim_only (p : PathNo) : Only fPath s (claim p s) := by
  unfold claim; split
  · exact Only.refl _ s
  · split
    · exact (joinInput_only s _ _).mono
    · split
      · exact (giveInput_only s _ _ _).mono
      · split
        · exact joinQueue_only s _
        · exact preempt_only s _ _

theorem serveQueueN_only (n : Nat) : Only fPath s (serveQueueN n s) := by
  induction n generalizing s with
  | zero => exact Only.refl _ s
  | succ n ih =>
    unfold serveQueueN; split
    · exact Only.refl _ s
    · split
      · exact Only.refl _ s
      · exact ((setClaimQueue_only s _).comp (hs := fPath) (claim_only _ _)).trans (ih _)

theorem serveQueue_only : Only fPath s (serveQueue s) := serveQueueN_only s _

theorem compareAtTuneEnd_only (p : PathNo) : Only fPath s (compareAtTuneEnd p s) := by
  unfold compareAtTuneEnd; split
  · exact Only.refl _ s
  · split
    · exact goIdle_only s _ _
    · simp only []; split
      · exact (reroute_only s _ _ _).mono
      · exact ((reroute_only s _ _ _).comp (hs := fPath) (releaseInput_only _ _)).trans (claim_only _ _)
    · exact (takeSnapshot_only s _ _).mono
    · exact Only.refl _ s

theorem tellHolder_only (b : Bool) (p : PathNo) : Only fPath s (tellHolder b p s) := by
  unfold tellHolder; split
  · exact (compareAtTuneEnd_only s _).trans (markGate_only _ _).mono
  · exact (markGate_only s _).mono

theorem changeInput_only (i : InputNo) (f : CarrierInput → CarrierInput) :
    Only fPath s (changeInput i f s) := by
  unfold changeInput; simp only []
  refine Only.trans (t := _) ?_ (Only.forEach (fun q t => tellHolder_only t _ q) _ _)
  exact (onInput_only s _ _).comp (recomputeInBand_only _)

theorem lockInput_only (i : InputNo) : Only fPath s (lockInput i s) := changeInput_only s _ _
theorem loseInput_only (i : InputNo) : Only fPath s (loseInput i s) := changeInput_only s _ _

/-! ### GateOps -/

/-- What a gate evaluation changes. -/
abbrev fGate : List Field :=
  [.paths, .card, .parental, .jobs, .store, .agents, .leadNotices, .sent, .gatesDue]

theorem gate_only (p : PathNo) : Only fGate s (gate p s) := by
  unfold gate; split
  · exact Only.refl _ s
  · simp only []
    refine Only.trans (t := _) ?_ (setPathState_only _ _ _).mono
    split
    · exact (emptySlots_only s _).mono
    · exact Only.refl _ s

theorem gateIfDue_only (p : PathNo) : Only fGate s (gateIfDue p s) := by
  unfold gateIfDue; split
  · exact (setGatesDue_only s _).comp (gate_only _ _)
  · exact Only.refl _ s

theorem gatePass_only : Only fGate s (gatePass s) := Only.forEach (fun p t => gateIfDue_only t p) _ s

theorem evalGates_only : Only fGate s (evalGates s) := (gatePass_only s).trans (gatePass_only _)

/-! ### LinkOps -/

theorem reply_only (a : Agent) (st : Status) (body : List Byte) :
    Only [.agents, .sent] s (reply a st body s) := by
  unfold reply; split
  · exact Only.refl _ s
  · exact (setLink_only s _ _).comp (send_only _ _)

theorem dropReplies_only (a : Agent) : Only [.card] s (dropReplies a s) := onCard_only s _

theorem linkReset_only (a : Agent) (up : Bool) :
    Only [.staging, .access, .card, .agents, .lead, .leadNotices] s (linkReset a up s) := by
  have h : Only [.staging, .access, .card, .agents, .lead, .leadNotices] s
      (dropReplies a (s.setLink a
        { s.link a with up := up, queue := [], waiting := false, ready := false, transfer := none })) :=
    (setLink_only s _ _).comp (dropReplies_only _ _)
  have h2 := h.trans (Only.ite (c := a = .network)
    (fun _ => (closeBatch_only _).comp (setStaging_only _ none)) (fun _ => Only.refl _ _))
  exact Only.ite (fun _ => h2.trans (elect_only _ _).mono) fun _ => h2

/-! ### CardOps -/

/-- What a change of the card's state changes. -/
abbrev fCard : List Field := [.card, .agents, .leadNotices, .sent, .gatesDue]

theorem cardMove_only (new : CardState) : Only fCard s (cardMove new s) := by
  unfold cardMove; split
  · exact Only.refl _ s
  · refine Only.trans (t := _) ?_ (markWhere_only _ _).mono
    exact (onCard_only s _).comp (raise_only _ _)

theorem captureFault_only (f : CardFault) (tag : Option Nat) (c : Option (Origin × Bool)) :
    Only [.card, .agents, .leadNotices] s (captureFault f tag c s) := by
  unfold captureFault; split
  · exact (onCard_only s _).mono
  · exact (onCard_only s _).comp (raise_only _ _)

theorem startWake_only : Only fCard s (startWake s) :=
  ((onCard_only s _).comp (hs := fCard) (send_only _ _)).trans (cardMove_only _ _)

theorem enqueueTx_only (t : Transaction) : Only fCard s (enqueueTx t s) := by
  unfold enqueueTx; simp only []; split
  · exact (onCard_only s _).comp (startWake_only _)
  · exact (onCard_only s _).mono

theorem dispatchOne_only : Only [.card, .sent] s (dispatchOne s) := by
  unfold dispatchOne; split
  · split
    · exact (onCard_only s _).comp (send_only _ _)
    · exact Only.refl _ s
  · exact Only.refl _ s

theorem repeatN_only {fs : List Field} {f : State → State} (h : ∀ s, Only fs s (f s)) (n : Nat) :
    Only fs s (repeatN f n s) := by
  induction n generalizing s with
  | zero => exact Only.refl _ s
  | succ n ih => exact (h s).trans (ih _)

theorem dispatch_only : Only [.card, .sent] s (dispatch s) := repeatN_only s dispatchOne_only _

/-- What applying a grant changes. -/
abbrev fGrant : List Field := [.access, .parental, .store, .sent, .agents, .leadNotices, .gatesDue]

theorem applyGrant_only (g : Grant) : Only fGrant s (applyGrant g s).2 := by
  have key : ∀ (f : Access → Access) (k : Sect) (c : NoticeClass),
      Only fGrant s (raise c (markDirty k (s.onAccess f))) := fun f k c =>
    ((onAccess_only s f).comp (hs := fGrant) (markDirty_only _ _)).trans (raise_only _ _).mono
  cases g with
  | tierAdd t e =>
    simp only [applyGrant, applyTierAdd]; split
    · exact Only.refl _ s
    · exact (onAccess_only s _).comp (tierChange_only _ _)
  | tierRemove t => exact (onAccess_only s _).comp (tierChange_only _ _)
  | creditAdd n => exact key _ _ _
  | eventGrant sid eid a b =>
    have done : ∀ t, Only fGrant t (markService sid (raise .access (markDirty .access t))) := fun t =>
      ((markDirty_only t _).comp (hs := fGrant) (raise_only _ _)).trans (markService_only _ _).mono
    simp only [applyGrant, applyEventGrant]; split
    · exact done s
    · split
      · exact Only.refl _ s
      · exact ((appendRecord_only s _).comp (hs := fGrant) (removeRecords_only _ _)).trans (done _)
  | pinReset p =>
    exact ((onParental_only s _).comp (hs := fGrant) (markDirty_only _ _)).trans (raise_only _ _).mono

theorem grantReply_only (l : Agent) (due : Bool) (r : Status × List Byte) :
    Only [.agents, .sent] s (grantReply l due r s) := by
  unfold grantReply; split
  · exact reply_only s _ _ _
  · exact Only.refl _ s

theorem endVerify_only (l : Agent) (m : List Byte) (due : Bool) (o : TxOutcome) :
    Only fAct s (endVerify l m due o s) := by
  unfold endVerify; split
  · split
    · refine Only.trans (t := _) ?_ (grantReply_only _ _ _ _).mono
      exact (applyGrant_only s _).comp (evalGates_only _)
    · exact (grantReply_only s _ _ _).mono
  all_goals exact (grantReply_only s _ _ _).mono

theorem endUnwrap_only (p : PathNo) (ph : Phase) (v : Nat) (stale : Bool) (k : Option Key) :
    Only [.paths, .gatesDue] s (endUnwrap p ph v stale k s) := by
  unfold endUnwrap; simp only []; split
  · exact (onPath_only s _ _).comp (markGate_only _ _)
  · exact (onPath_only s _ _).mono

theorem endTx_only (t : Transaction) (stale : Bool) (o : TxOutcome) :
    Only fAct s (endTx t stale o s) := by
  unfold endTx; split
  · exact endVerify_only s _ _ _ _
  · exact (endUnwrap_only s _ _ _ _ _).mono

theorem failAll_only : Only fAct s (failAll s) := by
  unfold failAll; simp only []
  refine Only.trans (t := _) ?_ (Only.forEach (fun x t => endTx_only t x _ _) _ _)
  refine Only.trans (t := _) ?_ (Only.forEach (fun x t => endTx_only t _ _ _) _ _)
  exact (onCard_only s _).mono

theorem becomeFaulted_only : Only fAct s (becomeFaulted s) :=
  ((onCard_only s _).comp (hs := fAct) (failAll_only _)).trans (cardMove_only _ _).mono

theorem countFailure_only : Only fAct s (countFailure s) := by
  unfold countFailure; simp only []; split
  · exact (onCard_only s _).comp (becomeFaulted_only _)
  · exact (onCard_only s _).mono

theorem dropEntry_only (tag : Nat) : Only [.card] s (dropEntry tag s) := onCard_only s _
theorem updateEntry_only (tag : Nat) (f : Entry → Entry) : Only [.card] s (updateEntry tag f s) :=
  onCard_only s _
theorem setRest_only (tag : Nat) (r : Option Count) : Only [.card] s (setRest tag r s) :=
  onCard_only s _

theorem failEntry_only (e : Entry) (f : CardFault) (st : Status) : Only fAct s (failEntry e f st s) := by
  unfold failEntry; simp only []
  refine Only.trans (t := _) ?_ (countFailure_only _)
  refine Only.trans (t := _) ?_ (endTx_only _ _ _ _)
  exact (dropEntry_only s _).comp (captureFault_only _ _ _ _)

theorem unexpectedReply_only (tag : Nat) :
    Only [.card, .agents, .leadNotices] s (unexpectedReply tag s) := captureFault_only s _ _ _

theorem judgeKeyMessage_only (p : PathNo) (v : Service) (m : KeyMessage) :
    Only fPath s (judgeKeyMessage p v m s) := by
  unfold judgeKeyMessage; simp only []; split
  · exact Only.refl _ s
  · split
    · exact (markGate_only s _).mono
    · split
      · exact ((cancelUnwraps_only s _ _).comp (hs := fPath) (onPath_only _ _ _)).trans
          (enqueueTx_only _ _).mono
      · exact (cancelUnwraps_only s _ _).mono

theorem keyPacket_only (p : PathNo) (v : Service) (l : List Byte) : Only fPath s (keyPacket p v l s) := by
  unfold keyPacket; split
  · split
    · exact judgeKeyMessage_only s _ _ _
    · exact Only.refl _ s
  · exact Only.refl _ s

/-! ### JobOps -/

theorem replaceJob_only (j : Job) : Only [.jobs] s (replaceJob j s) := setJobs_only s _

theorem retimeJob_only (j : Job) : Only [.jobs] s (retimeJob j s) := by
  unfold retimeJob; split
  · exact updateJob_only s _ _
  · exact replaceJob_only s _

theorem finishJob_only (id : Nat) (st : JobState) : Only fJob s (finishJob id st s) :=
  (updateJob_only s _ _).comp (jobChanged_only _)

theorem setUpRecord_only (p : PathNo) (id : Nat) (v : Service) : Only fPath s (setUpRecord p id v s) := by
  unfold setUpRecord; simp only []
  refine Only.trans (t := _) ?_ (claim_only _ _)
  exact ((onPath_only s _ _).trans (takeLookup_only _ _)).mono

theorem undoSetUp_only (p : PathNo) : Only fPath s (undoSetUp p s) := by
  unfold undoSetUp; simp only []
  refine Only.trans (t := _) ?_ (setPathState_only _ _ _).mono
  exact (releaseInput_only s _).comp (onPath_only _ _ _)

theorem buyForJob_only (j : Job) : Only fAccess s (buyForJob j s).2 := by
  unfold buyForJob; split
  · rename_i e _ _
    have h := jobBuy_only s j.service e
    split <;> rename_i hb <;> rw [hb] at h <;> exact h
  · exact Only.refl _ s

theorem startOn_only (p : PathNo) (j : Job) (v : Service) : Only fAct s (startOn p j v s) := by
  unfold startOn
  have h : Only fAct s (buyForJob j (setUpRecord p j.id v s)).2 :=
    (setUpRecord_only s _ _ _).comp (buyForJob_only _ _)
  split <;> rename_i hb <;> rw [hb] at h
  · refine Only.trans (t := _) ?_ (markGate_only _ _).mono
    refine Only.trans (t := _) ?_ (jobChanged_only _).mono
    exact h.trans (updateJob_only _ _ _).mono
  · refine Only.trans (t := _) ?_ (finishJob_only _ _ _).mono
    exact h.trans (undoSetUp_only _ _).mono

theorem becomeStartDue_only (j : Job) : Only [.jobs] s (becomeStartDue j s) := updateJob_only s _ _

theorem startJob_only (id : Nat) : Only fAct s (startJob id s) := by
  unfold startJob; split
  · exact Only.refl _ s
  · split
    · exact Only.refl _ s
    · split
      · exact (finishJob_only s _ _).mono
      · split
        · exact (becomeStartDue_only s _).mono
        · exact startOn_only s _ _ _

theorem startDueJob_only (id : Nat) : Only fAct s (startDueJob id s) := by
  unfold startDueJob; split
  · exact Only.refl _ s
  · split
    · split
      · exact startOn_only s _ _ _
      · exact Only.refl _ s
    · exact Only.refl _ s

theorem startDueJobs_only : Only fAct s (startDueJobs s) :=
  Only.forEach (fun x t => startDueJob_only t x) _ s

theorem endJob_only (j : Job) (st : JobState) : Only fPath s (endJob j st s) := by
  unfold endJob; simp only []; split
  · exact (finishJob_only s _ _).mono
  · exact (finishJob_only s _ _).comp (goIdle_only _ _ _)

theorem jobEndReached_only (j : Job) : Only fPath s (jobEndReached j s) := by
  unfold jobEndReached; split
  · exact endJob_only s _ _
  · split
    · exact (finishJob_only s _ _).mono
    · exact Only.refl _ s

theorem rereadScheduled_only (j : Job) (e : GuideEvent) : Only fAct s (rereadScheduled j e s) := by
  unfold rereadScheduled; simp only []; split
  · exact (retimeJob_only s _).comp (jobChanged_only _)
  · split
    · exact (finishJob_only s _ _).mono
    · split
      · exact ((replaceJob_only s _).comp (hs := fAct) (jobChanged_only _)).trans (startJob_only _ _)
      · exact (replaceJob_only s _).comp (jobChanged_only _)

theorem rereadActive_only (j : Job) (e : GuideEvent) : Only fAct s (rereadActive j e s) := by
  unfold rereadActive; simp only []
  split
  · split
    · exact Only.refl _ s
    · split
      · exact ((retimeJob_only s _).comp (hs := fAct) (jobChanged_only _)).trans
          (endJob_only _ _ _).mono
      · exact (retimeJob_only s _).comp (jobChanged_only _)
  · split
    · exact Only.refl _ s
    · split
      · exact ((retimeJob_only s _).comp (hs := fAct) (jobChanged_only _)).trans
          (endJob_only _ _ _).mono
      · exact (retimeJob_only s _).comp (jobChanged_only _)

theorem rereadJob_only (id : Nat) : Only fAct s (rereadJob id s) := by
  unfold rereadJob; split
  · exact Only.refl _ s
  · split
    · exact Only.refl _ s
    · split
      · exact (finishJob_only s _ _).mono
      · split
        · exact Only.refl _ s
        · exact rereadScheduled_only s _ _
      · split
        · exact Only.refl _ s
        · exact rereadActive_only s _ _
      · exact Only.refl _ s

/-! ### CommitOps -/

theorem commitPath_only (l : Lineup) (p : PathNo) : Only fPath s (commitPath l p s) := by
  unfold commitPath; split
  · exact Only.refl _ s
  · split
    · exact Only.refl _ s
    · split
      · exact goIdle_only s _ _
      · simp only []; split
        · exact (reroute_only s _ _ _).mono
        · exact (reroute_only s _ _ _).comp (releaseInput_only _ _)
      · exact (takeSnapshot_only s _ _).mono
      · exact Only.refl _ s

theorem retuneForCommit_only (old : Lineup) (i : InputNo) : Only fPath s (retuneForCommit old i s) := by
  unfold retuneForCommit; split
  · exact Only.refl _ s
  · exact Only.refl _ s
  · split
    · exact Only.refl _ s
    · split
      · exact Only.refl _ s
      · exact (tuneInto_only s _ _).comp (markGates_only _ _)

theorem commitJob_only (id : Nat) : Only fPath s (commitJob id s) := by
  unfold commitJob; split
  · exact Only.refl _ s
  · split
    · exact Only.refl _ s
    · split
      · exact (finishJob_only s _ _).mono
      · exact (finishJob_only s _ _).mono
      · exact (finishJob_only s _ _).comp (onPath_only _ _ _)
      · exact Only.refl _ s

theorem commitLineup_only (l : Lineup) : Only fEnd s (commitLineup l s) := by
  unfold commitLineup; simp only []
  refine Only.trans (t := _) ?_ (Only.forEach (fun x t => commitJob_only t x) _ _).mono
  refine Only.trans (t := _) ?_ (serveQueue_only _).mono
  refine Only.trans (t := _) ?_ (Only.forEach (fun x t => claim_only t x) _ _).mono
  refine Only.trans (t := _) ?_ (Only.forEach (fun x t => retuneForCommit_only t _ x) _ _).mono
  refine Only.trans (t := _) ?_ (Only.forEach (fun x t => commitPath_only t _ x) _ _).mono
  exact ((setLineup_only s _).comp (hs := fEnd) (markDirty_only _ _)).trans (raise_only _ _).mono

theorem settlePaths_only : Only fAct s (settlePaths s) :=
  (((serveQueue_only s).comp (hs := fAct) (startDueJobs_only _)).trans (serveQueue_only _).mono).trans
    (evalGates_only _).mono

theorem idleCheck_only : Only fGate s (idleCheck s) := by
  unfold idleCheck; split
  · exact ((send_only _ _).comp (hs := fGate) (cardMove_only _ _)).trans (evalGates_only _)
  · exact Only.refl _ s

theorem serviceFollow_only : Only [.power] s (serviceFollow s) := by
  unfold serviceFollow; split
  · exact setPower_only s _
  · exact Only.refl _ s

theorem settleStandby_only : Only fEnd s (settleStandby s) :=
  ((dispatch_only s).comp (hs := fEnd) (idleCheck_only _)).trans (serviceFollow_only _).mono

theorem drain_only : Only fEnd s (drain s) := by
  unfold drain; split
  · simp only []
    refine Only.trans (t := _) ?_ (settleStandby_only _)
    refine Only.trans (t := _) ?_ (raise_only _ _).mono
    split
    · exact ((setPower_only s _).comp (hs := fEnd) (commitLineup_only _ _)).trans
        (settlePaths_only _).mono
    · exact (setPower_only s _).mono
  · exact Only.refl _ s

theorem settleCard_only : Only fEnd s (settleCard s) :=
  (settleStandby_only s).trans (drain_only _)

theorem settle_only : Only fEnd s (settle s) :=
  (settlePaths_only s).comp (settleCard_only _)

/-! ### TimeOps -/

theorem signalPath_only (sid : Nat) (p : PathNo) : Only fPath s (signalPath sid p s) := by
  unfold signalPath; split
  · exact (takeLookup_only s _).comp (markGate_only _ _)
  · exact Only.refl _ s

theorem signalService_only (sid : Nat) : Only fAct s (signalService sid s) := by
  unfold signalService; simp only []
  refine Only.trans (t := _) ?_ (Only.forEach (fun x t => rereadJob_only t x) _ _)
  exact (Only.forEach (fun x t => signalPath_only t _ x) _ s).mono

theorem guideChanged_only (l : List Nat) : Only fAct s (guideChanged l s) := by
  unfold guideChanged; split
  · exact Only.refl _ s
  · exact (Only.forEach (fun x t => signalService_only t x) _ s).trans (raise_only _ _).mono

theorem sweep_only : Only fTime s (sweep s) := by
  unfold sweep; split
  · exact (setGuide_only s _).comp (guideChanged_only _ _)
  · exact Only.refl _ s

theorem takeBoundary_only (p : PathNo) : Only [.paths, .gatesDue] s (takeBoundary p s) :=
  (takeLookup_only s _).comp (markGate_only _ _)

theorem refreshBoundary_only (p : PathNo) : Only [.paths, .gatesDue] s (refreshBoundary p s) := by
  unfold refreshBoundary; split
  · exact Only.refl _ s
  · simp only []; split
    · exact (onPath_only s _ _).comp (takeBoundary_only _ _)
    · exact (onPath_only s _ _).mono

theorem announceToPath_only (n : Announcement) (p : PathNo) :
    Only [.paths, .gatesDue] s (announceToPath n p s) := by
  unfold announceToPath; split
  · split
    · exact refreshBoundary_only s _
    · exact (takeLookup_only s _).comp (markGate_only _ _)
  · exact Only.refl _ s

theorem announceToAccess_only (n : Announcement) : Only fAccess s (announceToAccess n s) := by
  unfold announceToAccess; split
  · exact ((refreshTierTimers_only s).trans (refreshEndTimers_only _)).mono
  · exact ((expireTiers_only s).trans (removeRecords_only _ _)).trans (setEndTimers_only _).mono

theorem announceToParental_only (n : Announcement) : Only fMeter s (announceToParental n s) := by
  unfold announceToParental; split
  · exact ((onParental_only s _).trans (setRollover_only _)).comp (judgeWindow_only _)
  · exact (rolloverIfDue_only s).trans (judgeWindow_only _).mono

theorem judgeScheduled_only (j : Job) : Only fAct s (judgeScheduled j s) := by
  unfold judgeScheduled; split
  · exact (finishJob_only s _ _).mono
  · split
    · exact startJob_only s _
    · exact (updateJob_only s _ _).mono

theorem judgeActive_only (j : Job) : Only fAct s (judgeActive j s) := by
  unfold judgeActive; split
  · exact (endJob_only s _ _).mono
  · exact (updateJob_only s _ _).mono

theorem reAnchorJob_only (j : Job) : Only fAct s (reAnchorJob j s) := by
  have h : ∀ k : Job, Only fAct s (updateJob j.id (fun _ => k) s) := fun k =>
    (updateJob_only s _ _).mono
  exact Only.ite (fun _ => (h _).trans (startJob_only _ _)) fun _ =>
    Only.ite (fun _ => (h _).trans (jobEndReached_only _ _).mono) fun _ => h _

theorem announceToJob_only (n : Announcement) (id : Nat) : Only fAct s (announceToJob n id s) := by
  unfold announceToJob; split
  · exact Only.refl _ s
  · split
    · exact reAnchorJob_only s _
    · exact judgeScheduled_only s _
    · exact judgeActive_only s _
    · exact Only.refl _ s

theorem announce_only (n : Announcement) : Only fTime s (announce n s) := by
  unfold announce
  extract_lets s1 s2 s3 s4
  have h1 : Only fTime s s1 := (Only.forEach (fun x t => announceToPath_only t n x) _ s).mono
  have h2 : Only fTime s s2 := h1.trans (announceToAccess_only _ _).mono
  have h3 : Only fTime s s3 := h2.trans (announceToParental_only _ _).mono
  have h4 : Only fTime s s4 := h3.trans (Only.forEach (fun x t => announceToJob_only t n x) _ _).mono
  clear_value s4
  cases n with
  | timeSet => exact h4.trans (sweep_only _)
  | reAnchor => exact h4
  | step => exact h4

theorem anchorFirst_only (n : NetMs) (p : Option PrevMark) : Only fTime s (anchorFirst n p s) := by
  unfold anchorFirst
  extract_lets t0 s1
  have h1 : Only fTime s s1 := (setTime_only s _).mono
  clear_value s1
  exact ((h1.trans (raise_only _ _).mono).trans (announce_only _ _)).trans (announce_only _ _)

theorem Only.pick {fs : List Field} {p q : Prop} [Decidable p] [Decidable q] {α β : Type}
    {s : State} {a b c : α × β × State} (ha : Only fs s a.2.2) (hb : Only fs s b.2.2)
    (hc : Only fs s c.2.2) : Only fs s (if p then a else if q then b else c).2.2 := by
  split
  · exact ha
  · split
    · exact hb
    · exact hc

theorem takeMark_only (m : TimeMark) : Only fTime s (takeMark m s).2.2 := by
  unfold takeMark
  extract_lets l prev e t taught anchored notice s1 s2 s3 s4 s5
  have h1 : Only fTime s s1 := (setTime_only s _).mono
  have h2 : Only fTime s s2 := h1.trans (Only.ite (fun _ => announce_only _ _) fun _ => Only.refl _ _)
  have h3 : Only fTime s s3 := h2.trans (Only.ite (fun _ => announce_only _ _) fun _ => Only.refl _ _)
  have h4 : Only fTime s s4 := h3.trans (setTime_only _ _).mono
  have h5 : Only fTime s s5 := h4.trans (Only.ite (fun _ => (raise_only _ _).mono) fun _ => Only.refl _ _)
  have ha := anchorFirst_only s m.n (some prev)
  have hb : Only fTime s (raise .time s) := (raise_only s _).mono
  clear_value prev e taught
  clear_value s5
  generalize anchorFirst m.n (some prev) s = x1 at ha ⊢
  generalize raise .time s = x2 at hb ⊢
  exact Only.pick ha hb h5

/-! ### Requests -/

theorem takeRequest_only {fs : List Field} (q : Req) (a : Agent) (own : List Byte → State → State)
    (hr : ∀ f, f ∈ [Field.agents, .sent] → f ∈ fs) (h : ∀ b, Only fs s (own b s)) :
    Only fs s (takeRequest q a own s) := by
  unfold takeRequest; split
  · exact Only.refl _ s
  · split
    · split
      · exact (reply_only s _ _ _).mono hr
      · exact h _
    · exact Only.refl _ s

theorem finish_only (a : Agent) (st : Status) (body : State → List Byte) :
    Only fEnd s (finish a st body s) := by
  unfold finish; simp only []
  refine Only.trans (t := _) ?_ (settleCard_only _)
  exact (settlePaths_only s).comp (reply_only _ _ _ _)

end Sys2Proof.Machine
end

