-- ==== Sys2Proof/Tests/Slice0.lean ====
section
/-! SUPPORT. Tests. First the smoke test of WellFormed: for each check an ill-formed command that it refuses. Then
single steps, whose expected values come from the manual's worked examples and tables (the comment of each names
its source). Then the witnesses: for every statement of Certificates/Slice0/Obligations.lean that has hypotheses,
one theorem that shows states and operands that meet them, clause by clause, at the ends of the ranges. -/

set_option Elab.async false

open Sys2Proof Sys2Proof.Machine

namespace Sys2Proof.Tests

/-! ## WellFormed -/

theorem test_wf_frame_linkTag : (Instr.frameArrival .media (.ends ⟨256, 1, 0, []⟩)).wf = false := by decide
theorem test_wf_frame_code : (Instr.frameArrival .media (.ends ⟨0, 256, 0, []⟩)).wf = false := by decide
theorem test_wf_frame_length : (Instr.frameArrival .media (.ends ⟨0, 1, 65536, []⟩)).wf = false := by decide
theorem test_wf_frame_body : (Instr.frameArrival .media (.ends ⟨0, 1, 0, [0]⟩)).wf = false := by decide
theorem test_wf_packet_tag : (Instr.transportPacket 0 ⟨8191, .clear, []⟩).wf = false := by decide
theorem test_wf_tuner_sequence : (Instr.tunerLock 0 256).wf = false ∧
    (Instr.tunerNoSignal 0 256).wf = false ∧ (Instr.tunerUnlock 0 256).wf = false := by decide
theorem test_wf_tier : (Instr.tierExpiry 256).wf = false := by decide
theorem test_wf_purchase_record : (Instr.purchaseEndExpiry 0 1).wf = false ∧
    (Instr.purchaseEndExpiry 65536 1).wf = false ∧
    (Instr.purchaseEndExpiry 1 65536).wf = false := by decide
theorem test_wf_card_tag : (Instr.cardDone 256 .other).wf = false ∧
    (Instr.cardBusyReply 256).wf = false ∧ (Instr.cardReject 256 1).wf = false ∧
    (Instr.cardReplyUnknownKind 256).wf = false := by decide
theorem test_wf_card_reason : (Instr.cardReject 0 0).wf = false ∧
    (Instr.cardReject 0 256).wf = false := by decide
theorem test_wf_outstanding_tag : (Instr.resendExpiry 4).wf = false ∧
    (Instr.transactionTimeout 4).wf = false := by decide
theorem test_wf_job_id : (Instr.jobStart 0).wf = false ∧ (Instr.startDueJobStart 256).wf = false ∧
    (Instr.graceExpiry 0).wf = false ∧ (Instr.jobEndExpiry 256).wf = false := by decide

/-! ## Decode: no row of the table gives bits -/

theorem test_no_word_spells_a_command : decodeTableWord 8 1 = none := by decide

/-! ## Small states -/

/-- The state after a command. -/
def after (c : Instr) (s : State) : State :=
  match exec c s with
  | .next t => t
  | _ => s

/-- A state in which a request stands alone in the queue of an agent that is the lead. -/
def asked (q : Req) (a : Agent) (body : List Byte) (s : State) : State :=
  (s.setLink a { s.link a with
    up := true, queue := [⟨5, q.code, body⟩], waiting := false, ready := true, disabled := false }).setLead
      (some a)

theorem taken_asked {q : Req} {a : Agent} {body : List Byte} {s : State}
    (h : headRefusal q a body (asked q a body s) = none) :
    Taken (asked q a body s) a q 5 body [] := by
  refine ⟨⟨?_, ?_⟩, h⟩ <;> cases a <;> rfl

/-- The state after a request has been taken. -/
def took (q : Req) (a : Agent) (body : List Byte) (s : State) : State :=
  after (q.command a) (asked q a body s)

/-- The status and body of the last answer sent, as numbers. -/
def answer (s : State) : Option (Status × List Nat) :=
  (s.sent.getLast?).bind fun
    | .reply _ _ st b => some (st, b.map (·.toNat))
    | _ => none

def mkCarrier (i : Nat) : Carrier := ⟨i, 100000 + i, 0, 0⟩

def mkService (i ch c : Nat) (a : AccessClass) (k : Option Nat) : Service :=
  ⟨i, ch, c, 1, [⟨.video, i, none⟩], a, k, 0, false⟩

def free501 : Service := mkService 501 101 12 .free none
def free502 : Service := mkService 502 102 14 .free none
def free505 : Service := mkService 505 105 12 .free none
def free503 : Service := mkService 503 103 20 .free none
def free504 : Service := mkService 504 104 31 .free none
def paid506 : Service := mkService 506 106 12 (.tier 9) (some 777)
def sold810 : Service := mkService 810 130 40 .event (some 778)

def someLineup : Lineup :=
  ⟨42, [12, 14, 20, 31, 40].map mkCarrier,
    [free501, free502, free503, free504, free505, paid506, sold810]⟩

/-- An event for sale of service 810, price 400, as in example 6.10. -/
def event72 : GuideEvent := ⟨810, 72, 8000000, 1800, none, 400, 0⟩

def locked (c : Nat) (h : List PathNo) : CarrierInput := ⟨.locked, some c, h, 9, 0, none, none⟩

def onInput (v : Service) (i : InputNo) (j : Option Nat) : Path :=
  { resetPath with
    state := .presenting, snapshot := some v, lastService := some v.id, heldInput := some i, job := j }

def runningJob (i : Nat) (p : PathNo) (sid : Nat) : Job :=
  ⟨i, sid, .time, 7999000, 8002000, 0, 0, false, .active, some 7999000, 0, some p, false, none,
    some 100000000, none⟩

/-- A part in use and at rest: network time set (7,999,780 s), a lineup, a clean image, a READY card and no path
in use. -/
def quiet : State :=
  let s := State.reset
  let s := ((s.setCount 600000).setLineup someLineup).setGuide ⟨[event72], 660000⟩
  let s := s.setTime { s.time with
    state := .set, baseL := 580000, baseT := 7999760000, holdover := some 2400000 }
  let s := (s.setStore { s.store with dirty := [], dirtySince := none, commitDelay := none }).setLeadNotices []
  (s.setCard { s.card with state := .ready }).setAccess { s.access with balance := 1000 }

/-- The same with both view paths and three record paths on four LOCKED inputs. -/
def busy : State :=
  let s := quiet.setInputs #v[locked 12 [0, 2], locked 14 [1], locked 20 [3], locked 31 [4]]
  let s := s.setPaths
    #v[onInput free501 0 none, onInput free502 1 none, onInput free505 0 (some 1),
      onInput free503 2 (some 2), onInput free504 3 (some 3), resetPath]
  let s := s.setTime { s.time with inBandInput := some 0 }
  let s := s.setParental { s.parental with run := some 600000, minuteExpiry := some 660000 }
  s.setJobs ⟨[runningJob 1 2 505, runningJob 2 3 503, runningJob 3 4 504], 20⟩

/-! ## Network time -/

/-- The state of the first worked case of 1.8: anchor (1,000,000, 5,000,000,000) and its mark as prev mark. -/
def learning : State :=
  let s := State.reset.setCount 1120000
  s.setTime { s.time with
    state := .set, baseL := 1000000, baseT := 5000000000, holdover := some 2800000,
    prevMark := some ⟨.outOfBand, none, 5000000000, 1000000⟩ }

/-- 1.8, rate learning and a forward slew. -/
theorem test_timeMark_slews : let t := took .timeMark .network (u64 5000120036) learning
    t.time.rate = 65540 ∧ t.time.slew = 36 ∧ t.time.slewEnd = some 1123602 ∧
    t.time.baseL = 1120000 ∧ t.time.baseT = 5000120000 ∧ t.time.holdover = some 2920000 := by
  decide +kernel

/-- 1.8, the end of that slew at count 1,123,602. -/
theorem test_endOfSlew :
    let t := after .endOfSlewExpiry ((took .timeMark .network (u64 5000120036) learning).setCount 1123602)
    t.time.slew = 0 ∧ t.time.baseT = 5000123638 ∧ t.time.rate = 65540 := by decide +kernel

/-- 1.8, a step of 5,000. -/
theorem test_timeMark_steps :
    let s := (State.reset.setCount 3010000).setTime { State.reset.time with
      state := .set, baseL := 3000000, baseT := 5002000000, rate := 65540 }
    let t := took .timeMark .network (u64 5002015000) s
    t.time.baseT = 5002015000 ∧ t.time.baseL = 3010000 ∧ t.time.slew = 0 ∧
    answer t = some (.ok, [2, 0, 0, 0, 0, 0, 0, 19, 136, 0, 0, 1, 0, 4]) := by decide +kernel

/-- 1.8, local day and minute of zone −720 at 1,000,000 ms: day −1, minute 736. -/
theorem test_local_day : let s := State.reset.setTime { State.reset.time with
      state := .set, baseT := 1000000, zone := -720 }
    s.localDay = -1 ∧ s.minuteOfDay = 736 := by decide +kernel

/-- 1.8, from power reset to holdover: the holdover expiry at 2,140,000. -/
theorem test_holdover :
    let s := (State.reset.setCount 2140000).setTime { State.reset.time with
      state := .set, baseL := 340000, baseT := 6000300000, holdover := some 2140000 }
    (after .holdoverExpiry s).time.state = .holdover ∧
    (after .holdoverExpiry s).leadNotices = [.fault, .time] := by decide +kernel

/-- R18: TIME SET outside UNSET is refused TIME_HELD. -/
theorem test_timeSet_held : answer (took .timeSet .media (u64 5) learning) = some (.timeHeld, []) := by
  decide +kernel

/-- R19: a zone of 900 is limited to 840. -/
theorem test_zoneSet_limits : let t := took .zoneSet .media (u16 900) learning
    t.time.zone = 840 ∧ answer t = some (.okClamped, []) := by decide +kernel

/-- R17: selecting the other source clears prev mark. -/
theorem test_timeSource : let t := took .timeSource .media (u8 2) learning
    t.time.source = .inBand ∧ t.time.prevMark = none := by decide +kernel

/-- R20: TIME READ begins with state SET (2) and the local count. -/
theorem test_timeRead : ((answer (took .timeRead .panel [] learning)).map fun x => x.2.take 9) =
    some [2, 0, 0, 0, 0, 0, 17, 23, 0] := by decide +kernel

/-- R7: in UNSET a time section from the in-band input anchors the clock when IN_BAND is selected. -/
theorem test_timeSection :
    let s := busy.setTime { State.reset.time with source := .inBand, inBandInput := some 0 }
    let t := after (.transportPacket 0 ⟨8001, .clear, u64 5000⟩) s
    t.time.state = .set ∧ t.time.baseT = 5000 := by decide +kernel

/-! ## The lineup -/

/-- The part of 2.5 before the commit: version 42, four carriers, paths 0..3. -/
def flying : State :=
  let tune (v : Service) (i : InputNo) (st : PathState) (u : Option Unlock) : Path :=
    { onInput v i none with state := st, unlock := u }
  let s701 := mkService 501 101 12 (.tier 5) (some 700)
  let s702 := mkService 502 102 14 (.tier 5) (some 701)
  let s610 := mkService 610 210 12 .free none
  let s700 := mkService 700 300 20 (.tier 9) (some 702)
  let s := quiet.setLineup ⟨42, [12, 14, 20].map mkCarrier, [s701, s702, s610, s700]⟩
  let s := s.setAccess { s.access with tiers := [⟨5, none, none⟩, ⟨9, none, none⟩] }
  let s := s.setInputs #v[locked 12 [0, 2], { locked 14 [1] with state := .tuning, tuneTimeout := some 601000 },
    resetInput, locked 20 [3]]
  let s := s.setPaths #v[{ tune s701 0 .presenting (some ⟨501, some 310⟩) with slotA := ⟨some ⟨1, 7⟩, none⟩ },
    tune s702 1 .tuning none, tune s610 0 .presenting none,
    { tune s700 3 .presenting none with job := some 8, slotA := ⟨some ⟨1, 7⟩, none⟩ },
    resetPath, resetPath]
  let s := s.setTime { s.time with inBandInput := some 0 }
  let s := s.setParental { s.parental with run := some 600000, minuteExpiry := some 660000 }
  (s.setJobs ⟨[{ runningJob 8 3 700 with path := some 3 }], 8⟩).setStaging
    (some ⟨43, [12, 14, 15].map mkCarrier,
      [{ s701 with carrier := 15 }, { s702 with components := s702.components ++ [⟨.subtitle, 900, none⟩] },
       { s610 with channel := 211 }]⟩)

/-- 2.5, the commit: paths 0 and 3, input 2 and job 8 after it. -/
theorem test_lineupEnd_commits : let t := took .lineupEnd .network [] flying
    t.lineup.version = 43 ∧ (t.path 0).state = .tuning ∧ (t.path 0).heldInput = some 2 ∧
    (t.path 0).unlock = none ∧ (t.path 3).state = .idle .serviceRemoved ∧
    (t.input 2).carrier = some 15 ∧ (t.input 0).holders = [2] ∧ (t.input 3).state = .free ∧
    (t.path 2).state = .presenting ∧ (t.job 8).map (·.state) = some (.failed .serviceRemoved) := by
  decide +kernel

/-- 2.5, input 1 locks after the commit: path 1 is re-routed on its input and is ACQUIRING. -/
theorem test_tunerLock_compares :
    let t := after (.tunerLock 1 9) (took .lineupEnd .network [] flying)
    (t.path 1).state = .acquiring ∧ ((t.path 1).snapshot.map fun v => v.components.length) = some 2 ∧
    (t.path 1).heldInput = some 1 := by decide +kernel

/-- R29: the lowest channel number that stands twice is reported. -/
theorem test_lineupEnd_duplicate :
    let s := quiet.setStaging (some ⟨7, [mkCarrier 12], [free501, { free505 with channel := 101 }]⟩)
    answer (took .lineupEnd .network [] s) = some (.badLineup, [3, 0, 101]) := by decide +kernel

/-- R26: LINEUP BEGIN opens an empty staging lineup. -/
theorem test_lineupBegin : (took .lineupBegin .network (u16 43) quiet).staging = some ⟨43, [], []⟩ := by
  decide +kernel

/-- R28, R24: a service with the component tag 8001 is refused with position 1 and field 5, the components. -/
theorem test_lineupAdd_refuses :
    let s := quiet.setStaging (some ⟨43, [], []⟩)
    let v : Service := { free501 with components := [⟨.video, 8001, none⟩] }
    answer (took .lineupAdd .network (u8 2 ++ u8 1 ++ v.bytes) s) = some (.badField, [1, 5]) := by
  decide +kernel

/-- R37: LINEUP READ of one service, channel 105 on, begins with that record. -/
theorem test_lineupRead :
    ((answer (took .lineupRead .media (u8 1 ++ u16 105 ++ u8 1) quiet)).map fun x => x.2.take 5) =
      some [1, 1, 249, 0, 105] := by decide +kernel

/-! ## The guide -/

def ev (i st d : Nat) : List Byte := u16 i ++ u32 st ++ u32 d ++ u8 0 ++ u8 0 ++ u16 0 ++ u32 0

/-- 3.7 in small: of three events one is of no duration, one replaces another of its id, one ended. -/
theorem test_guideLoad :
    let s := (quiet.setTime { quiet.time with baseL := 600000, baseT := 5000000000 }).setGuide
      ⟨[⟨501, 311, 5002400, 1800, none, 0, 0⟩], 660000⟩
    let t := took .guideLoad .network
      (u16 501 ++ u8 3 ++ ev 311 5002400 2700 ++ ev 313 5005100 0 ++ ev 300 4990000 3600) s
    answer t = some (.ok, [1, 2, 1, 1, 0, 0, 0, 1, 0, 0, 1]) ∧
    t.guide.pool = [⟨501, 311, 5002400, 2700, none, 0, 0⟩] := by decide +kernel

/-- R49. -/
theorem test_guideDrop : (took .guideDrop .network (u16 810 ++ u16 72) quiet).guide.pool = [] := by
  decide +kernel

/-- R50: an event that ended more than 3,600 s ago leaves the pool at a sweep. -/
theorem test_sweep :
    let s := quiet.setGuide ⟨[⟨501, 1, 7990000, 100, none, 0, 0⟩, event72], 600000⟩
    (after .sweepExpiry s).guide = ⟨[event72], 660000⟩ := by decide +kernel

/-- R52: GUIDE READ of service 810 finds event 72 first. -/
theorem test_guideRead :
    ((answer (took .guideRead .media (u16 810 ++ u32 8000000 ++ u8 16) quiet)).map fun x => x.2.take 7) =
      some [1, 0, 72, 0, 122, 18, 0] := by decide +kernel

/-! ## Carrier inputs and paths -/

/-- 4.10: an UNLOCK makes an input LOST with a re-tune expiry 5,000 ahead and stalls its holder. -/
theorem test_tunerUnlock : let t := after (.tunerUnlock 2 9) busy
    (t.input 2).state = .lost ∧ (t.input 2).retune = some 605000 ∧
    (t.path 3).state = .stalled .noSignal := by decide +kernel

/-- 4.10: the re-tune expiry sends a tune with the next sequence and stands again 5,000 ahead. -/
theorem test_retune : let t := after (.retuneExpiry 2) ((after (.tunerUnlock 2 9) busy).setCount 605000)
    (t.input 2).state = .lost ∧ (t.input 2).sequence = 10 ∧ (t.input 2).retune = some 610000 := by
  decide +kernel

/-- R56: NO_SIGNAL in LOCKED makes the input LOST. -/
theorem test_noSignal : ((after (.tunerNoSignal 3 9) busy).input 3).state = .lost := by decide +kernel

/-- R57: the tune timeout of an input in TUNING makes it LOST. -/
theorem test_tuneTimeout : let t := after (.tuneTimeout 1) (flying.setCount 601000)
    (t.input 1).state = .lost ∧ (t.path 1).state = .stalled .noSignal := by decide +kernel

/-- R55: a report of a superseded sequence is discarded (5.8, count 1,000,450). -/
theorem test_old_report : after (.tunerLock 1 8) flying = flying := by decide +kernel

/-- 4.10: a job's claim takes the input held by path 1 alone; path 1 joins the claim queue. -/
theorem test_preemption :
    let j : Job := ⟨4, 810, .time, 7999780, 8002000, 0, 0, false, .scheduled, none, 0, none, false,
      some 600000, none, none⟩
    let t := after (.jobStart 4) (busy.setJobs ⟨busy.jobs.list ++ [j], 20⟩)
    (t.input 1).carrier = some 40 ∧ (t.input 1).holders = [5] ∧ (t.input 1).sequence = 10 ∧
    (t.input 1).tuneTimeout = some 601500 ∧ (t.path 1).state = .stalled .inputTaken ∧
    t.claimQueue = [1] ∧ (t.path 5).state = .tuning := by decide +kernel

/-- 4.10: when a job ends its input becomes FREE and the path at the head of the queue is given it. -/
theorem test_claimQueue :
    let s := (busy.setPath 1 { busy.path 1 with heldInput := none, state := .stalled .inputTaken }).setInput 1
      (locked 40 [5])
    let s := (s.setPath 5 (onInput sold810 1 none)).setClaimQueue [1]
    let s := s.setJobs ⟨[{ runningJob 3 4 504 with endExpiry := some 600000 }], 20⟩
    let t := after (.jobEndExpiry 3) s
    (t.input 3).carrier = some 14 ∧ (t.input 3).holders = [1] ∧ (t.input 3).sequence = 10 ∧
    t.claimQueue = [] ∧ (t.path 1).state = .tuning ∧ (t.job 3).map (·.state) = some .complete := by
  decide +kernel

/-- R69: INPUT READ begins with the state and carrier of input 0. -/
theorem test_inputRead : ((answer (took .inputRead .media [] busy)).map fun x => x.2.take 6) =
    some [3, 1, 12, 2, 0, 2] := by decide +kernel

/-- 4.10: no input can serve carrier 40 when every input is held by a record path too. -/
theorem test_tunePath_noInput :
    answer (took .tunePath .media (u8 0 ++ u8 1 ++ u16 810) busy) = some (.noInput, []) := by decide +kernel

/-- 5.8: TUNE PATH by channel number tunes the lowest FREE input and answers CHANGED. -/
theorem test_tunePath : let t := took .tunePath .media (u8 0 ++ u8 2 ++ u16 102) quiet
    (t.path 0).state = .tuning ∧ (t.path 0).heldInput = some 0 ∧ (t.input 0).sequence = 1 ∧
    (t.input 0).tuneTimeout = some 601500 ∧
    answer t = some (.ok, [1, 1, 246, 0, 102, 1, 0, 2, 0, 0]) := by decide +kernel

/-- R75: a step UP from channel 101 finds channel 102; DOWN wraps around to the highest, 130. -/
theorem test_stepPath :
    ((took .stepPath .media (u8 0 ++ u8 1) (quiet.setPath 0 { resetPath with lastService := some 501 })).path
      0).lastService = some 502 ∧
    (stepFound (quiet.setPath 0 { resetPath with lastService := some 501 }) 0 false).map (·.id) =
      some 810 := by decide +kernel

/-- R80. -/
theorem test_releasePath : let t := took .releasePath .media (u8 1) busy
    (t.path 1).state = .idle .released ∧ (t.input 1).state = .free := by decide +kernel

/-- R94: PATH READ of path 1, an INSET path that is PRESENTING service 502. -/
theorem test_pathRead : ((answer (took .pathRead .panel (u8 1) busy)).map fun x => x.2.take 7) =
    some [2, 4, 0, 0, 1, 1, 246] := by decide +kernel

/-- 5.9: at the boundary event 42 of rating 5 is current, the unlock of event 41 is dropped, and the path is
BLOCKED(RATING) with its keys kept. -/
theorem test_boundary :
    let v := mkService 600 106 12 (.tier 3) (some 777)
    let s := (quiet.setCount 4380000).setTime { quiet.time with baseL := 4000000, baseT := 7199620000 }
    let s := s.setGuide ⟨[⟨600, 41, 7190000, 10000, some 4, 0, 0⟩, ⟨600, 42, 7200000, 3600, some 5, 0, 0⟩],
      99999999⟩
    let s := (s.setAccess { s.access with tiers := [⟨3, none, none⟩] }).setInput 0 (locked 12 [1])
    let s := s.setParental { s.parental with
      active := 2, profiles := s.parental.profiles.set 1 { defaultProfile with ceiling := 3 } }
    let s := s.setPath 1 { onInput v 0 none with
      unlock := some ⟨600, some 41⟩, boundary := some ⟨7200000, 4380000⟩,
      currentEvent := some ⟨41, 7190000, 7200000⟩, slotA := ⟨some ⟨1, 1⟩, none⟩ }
    let t := after (.boundaryExpiry 1) s
    (t.path 1).state = .blocked .rating ∧ (t.path 1).unlock = none ∧
    (t.path 1).currentEvent.map (·.id) = some 42 ∧ (t.path 1).slotA.loaded.isSome = true ∧
    (t.path 1).boundary = some ⟨7203600, 7980000⟩ := by decide +kernel

/-- R88: a clear packet of a component goes out on every PRESENTING path that has the tag. -/
theorem test_packet : (after (.transportPacket 0 ⟨501, .clear, [7]⟩) busy).sent = [.packet 0 501 [7]] := by
  decide +kernel

/-! ## Entitlements and the card -/

/-- The part of 6.10 at second 8,000,000: balance 1,000, batch number 6, three records. -/
def shop : State :=
  let s := (quiet.setTime { quiet.time with baseL := 600000, baseT := 8000000000 }).setAccess
    { quiet.access with balance := 1000, batchNumber := 6, purchases :=
      [⟨810, 68, 7980000, 7990000, 250, 7980000, false, false, false, none⟩,
       ⟨810, 69, 7990000, 7998500, 250, 7990000, false, false, false, none⟩,
       ⟨900, 5, 8000000, 8010000, 0, 7990000, true, false, false, some 10600000⟩] }
  let s := s.setInput 0 (locked 40 [0])
  s.setPath 0 { onInput sold810 0 none with
    state := .denied .notPurchased, currentEvent := some ⟨72, 8000000, 8001800⟩ }

/-- 6.10, PURCHASE (810, 72): balance 600, four records, path 0 ACQUIRING. -/
theorem test_purchase : let t := took .purchase .media (u16 810 ++ u16 72 ++ u32 0) shop
    t.access.balance = 600 ∧ (t.path 0).state = .acquiring ∧
    (t.access.bought 810 72).bind (·.timer) = some 2400000 ∧
    answer t = some (.ok, [0, 0, 2, 88, 4]) := by decide +kernel

/-- 6.10: with balance 600 an event of price 700 is refused NO_CREDIT with both. -/
theorem test_purchase_noCredit :
    let s := (shop.setAccess { shop.access with balance := 600 }).setGuide
      ⟨[⟨810, 73, 8001800, 1800, none, 700, 0⟩], 660000⟩
    answer (took .purchase .media (u16 810 ++ u16 73 ++ u32 0) s) =
      some (.noCredit, [0, 0, 2, 88, 2, 188]) := by decide +kernel

/-- 6.10, REPORT FETCH: batch 7 with records 1, 2 and 4. -/
theorem test_reportFetch :
    let t := took .reportFetch .network [] (took .purchase .media (u16 810 ++ u16 72 ++ u32 0) shop)
    t.access.batchNumber = 7 ∧ t.access.batchOpen = true ∧
    t.access.purchases.map (·.inBatch) = [true, true, false, true] := by decide +kernel

/-- 6.10, REPORT CLEAR at second 8,000,050: three marked, two removed. -/
theorem test_reportClear :
    let s := took .reportFetch .network [] (took .purchase .media (u16 810 ++ u16 72 ++ u32 0) shop)
    let t := took .reportClear .network (u8 7) (s.setCount 650000)
    answer t = some (.ok, [3, 2]) ∧ t.access.purchases.map (·.event) = [5, 72] ∧
    t.access.purchases.map (·.reported) = [false, true] := by decide +kernel

/-- 6.10, second 8,010,000: the end expiry removes the granted record. -/
theorem test_purchaseEnd :
    ((after (.purchaseEndExpiry 900 5) (shop.setCount 10600000)).access.bought 900 5).isNone = true := by
  decide +kernel

/-- R97: a tier record whose expiry is reached is removed. -/
theorem test_tierExpiry :
    (after (.tierExpiry 9)
      (quiet.setAccess { quiet.access with tiers := [⟨9, some 7999780, some 600000⟩] })).access.tiers = [] := by
  decide +kernel

/-- A grant message of a kind and a payload (00_scope, "Frame and message formats"). -/
def grantBody (kind : Nat) (payload : List Byte) : List Byte :=
  u32 1 ++ u8 kind ++ payload ++ List.replicate 16 0

/-- R107, R123: a GRANT becomes a VERIFY that is sent with tag 0 and a timeout of 400. -/
theorem test_grant : let t := took .grant .network (grantBody 3 (u32 500)) quiet
    t.card.outstanding.map (·.tag) = [0] ∧ t.card.outstanding.map (·.timeout) = [some 600400] ∧
    (t.link .network).waiting = true ∧ answer t = none := by decide +kernel

/-- R108, R110: VALID applies CREDIT ADD, up to 1,000,000. -/
theorem test_cardDone_credit :
    let s := took .grant .network (grantBody 3 (u32 500))
      (quiet.setAccess { quiet.access with balance := 999800 })
    let t := after (.cardDone 0 (.verdict true)) s
    t.access.balance = 1000000 ∧ answer t = some (.okClamped, [0, 15, 66, 64, 0, 0, 1, 44]) := by
  decide +kernel

/-- 6.11: TIER REMOVE under a recording denies the path and empties its slots; the job stays ACTIVE. -/
theorem test_cardDone_tierRemove :
    let s := (quiet.setAccess { quiet.access with tiers := [⟨9, none, none⟩] }).setInput 0 (locked 12 [3])
    let s := s.setPath 3 { onInput paid506 0 (some 14) with slotA := ⟨some ⟨4, 1⟩, none⟩, slotB := ⟨none, some 5⟩ }
    let s := s.setJobs ⟨[runningJob 14 3 506], 14⟩
    let t := after (.cardDone 0 (.verdict true)) (took .grant .network (grantBody 2 (u8 9)) s)
    t.access.tiers = [] ∧ (t.path 3).state = .denied .notEntitled ∧ (t.path 3).slotA = Slot.empty ∧
    (t.job 14).map (·.state) = some .active ∧ answer t = some (.ok, [4]) := by decide +kernel

/-- R117: ENTITLEMENT READ of part 1. -/
theorem test_entitlementRead :
    ((answer (took .entitlementRead .media (u8 1 ++ u8 0 ++ u8 16) shop)).map (·.1)) = some .ok := by
  decide +kernel

/-- R119: insertion resets the card, with a reset expiry 500 ahead. -/
theorem test_cardInsertion :
    let t := after .cardInsertion (quiet.setCard State.reset.card)
    t.card.state = .resetting ∧ t.card.resetExpiry = some 600500 ∧ t.sent = [.cardReset] := by
  decide +kernel

/-- R119, R129: no answer to reset within 500 ms makes the card FAULTED. -/
theorem test_cardResetExpiry :
    let t := after .cardResetExpiry ((after .cardInsertion (quiet.setCard State.reset.card)).setCount 600500)
    t.card.state = .faulted ∧ t.card.capture.map (·.fault) = some .resetTimeout := by decide +kernel

theorem test_answerToReset :
    (after .answerToReset (after .cardInsertion (quiet.setCard State.reset.card))).card.state = .ready := by
  decide +kernel

/-- The part of 7.9 at count 10,400: three transactions outstanding. -/
def failing : State :=
  let s := (quiet.setCount 10400).setTime State.reset.time
  s.setCard { s.card with outstanding :=
    [⟨0, .unwrap 1 .a 9 (.tier 9) [], 10000, some 10400, none, 0, false⟩,
     ⟨1, .verify .network 7 (grantBody 3 (u32 1)) true, 10100, some 10500, none, 0, false⟩,
     ⟨2, .unwrap 4 .b 2 (.tier 9) [], 10300, some 10700, none, 0, false⟩] }

/-- 7.9 at 10,400: tag 0 times out; the capture takes it, the failure counts, the tag rests until 10,800. -/
theorem test_timeout : let t := after (.transactionTimeout 0) failing
    t.card.failures = 1 ∧ t.card.resting.get 0 = some 10800 ∧
    t.card.capture = some ⟨.cardTimeout, some 0, some (.unwrap 1 .a, false), 10400, false⟩ := by
  decide +kernel

/-- 7.9 at 10,700: the third failure in a row makes the card FAULTED. -/
theorem test_third_failure :
    let s := (failing.setCount 10700).setCard { failing.card with failures := 2 }
    (after (.transactionTimeout 2) s).card.state = .faulted := by decide +kernel

/-- 7.9 at 10,650: a reply of a resting tag is discarded. -/
theorem test_resting_reply :
    let s := (after (.transactionTimeout 0) failing).setCount 10650
    after (.cardDone 0 (.key 1)) s = s := by decide +kernel

/-- R125: BUSY sets a re-send 20 ahead, and the re-send keeps the tag. -/
theorem test_busy : let t := after (.cardBusyReply 1) failing
    (t.card.entry 1).bind (·.resend) = some 10420 ∧
    ((after (.resendExpiry 1) (t.setCount 10420)).card.entry 1).bind (·.timeout) = some 10820 := by
  decide +kernel

/-- R126: REJECT answers the GRANT INVALID with the reason. -/
theorem test_reject :
    answer (after (.cardReject 0 9) (took .grant .network (grantBody 3 (u32 500)) quiet)) =
      some (.invalid, [9]) := by decide +kernel

/-- R127: at the end of its rest a tag is free. -/
theorem test_tagRestEnd :
    (after (.tagRestEnd 0) ((after (.transactionTimeout 0) failing).setCount 10800)).card.resting.get 0 = none
  := by decide +kernel

/-- R128: a reply of unknown kind is captured as UNEXPECTED_REPLY. -/
theorem test_unknown_kind :
    ((after (.cardReplyUnknownKind 2) quiet).card.capture.map (·.fault)) = some .unexpectedReply := by
  decide +kernel

/-- R121: removal empties every slot and leaves ABSENT. -/
theorem test_cardRemoval : let t := after .cardRemoval failing
    t.card.state = .absent ∧ t.card.outstanding = [] ∧ t.card.failures = 0 := by decide +kernel

/-- R139: in standby an idle card's clock is stopped, and a transaction wakes it with an expiry 50 ahead. -/
theorem test_clockStop : let s := quiet.setPower ⟨.service, none⟩
    (after .cardClockStop s).card.state = .idleClock ∧ (after .cardClockStop s).power.state = .standby := by
  decide +kernel

theorem test_wakeExpiry :
    let s := quiet.setCard { quiet.card with state := .waking, wakeExpiry := some 600000 }
    (after .cardWakeExpiry s).card.state = .ready := by decide +kernel

/-- R123: the head of the waiting queue is sent with the lowest free tag. -/
theorem test_dispatch :
    let s := quiet.setCard { failing.card with waiting := [.unwrap 0 .a 1 (.tier 9) []] }
    (after .transactionDispatch s).sent = [.cardSend 3 (.unwrap 0 .a 1 (.tier 9) [])] := by decide +kernel

/-- R132, R133: CARD RESET resets the card; FAULT CLEAR empties the capture; the readings answer OK. -/
theorem test_card_requests :
    (took .cardReset .media [] quiet).card.state = .resetting ∧
    (took .faultClear .media [] (after (.transactionTimeout 0) failing)).card.capture = none ∧
    ((answer (took .cardStatus .panel [] failing)).map (·.1)) = some .ok ∧
    answer (took .faultRead .panel [] quiet) = some (.ok, [1]) := by decide +kernel

/-- 7.8 at 900,020: a new version with the queue full marks the old UNWRAP stale, and is dropped. -/
theorem test_key_message_full :
    let s := (quiet.setAccess { quiet.access with tiers := [⟨9, none, none⟩] }).setInput 0 (locked 12 [2])
    let s := s.setPath 2 { onInput paid506 0 none with slotA := ⟨some ⟨3, 1⟩, none⟩, slotB := ⟨none, some 5⟩ }
    let other (t : Nat) : Entry := ⟨t, .unwrap 0 .a 12 (.tier 9) [], 0, some 900400, none, 0, false⟩
    let s := s.setCard { s.card with
      outstanding := [other 0, other 1, ⟨2, .unwrap 2 .b 5 (.tier 9) [], 0, some 900400, none, 0, false⟩, other 3]
      waiting := List.replicate 8 (.unwrap 3 .a 7 (.tier 9) []) }
    let t := after (.transportPacket 0 ⟨777, .clear, u8 134 ++ u8 1 ++ u16 9 ++ List.replicate 16 0⟩) s
    (t.card.entry 2).map (·.stale) = some true ∧ t.card.waiting.length = 8 ∧
    (t.path 2).slotB = ⟨none, some 5⟩ ∧ (t.path 2).state = .presenting := by decide +kernel

/-! ## Parental limits -/

/-- The part of 8.8 at count 10,015,000: profile 2 with ceiling 3, allowance 90, used 88 and partial 45,000 at the
start of its run at 10,000,000; minute 1,249. -/
def evening : State :=
  let s := (busy.setCount 10015000).setGuide ⟨[], 99999999⟩
  let s := s.setTime { s.time with baseL := 10000000, baseT := 74980000 }
  let s := s.setPaths
    #v[onInput free501 0 none, resetPath, onInput free505 0 (some 1), onInput free503 2 (some 2),
      onInput free504 3 (some 3), resetPath]
  let s := s.setInput 1 resetInput
  s.setParental { s.parental with
    active := 2
    profiles := s.parental.profiles.set 1
      { defaultProfile with ceiling := 3, allowance := 90, winStart := 420, winStop := 1260 }
    meters := s.parental.meters.set 2 ⟨88, 45000, 0⟩
    run := some 10000000, minuteExpiry := some 10015000, side := .inside, edgeExpiry := some 10620000,
    lastRollover := some 0, rolloverExpiry := some 21420000 }

/-- 8.8 at 10,015,000: a minute is added and the next expiry stands at 10,075,000. -/
theorem test_minute : let t := after .minuteExpiry evening
    t.parental.activeMeter = ⟨89, 0, 0⟩ ∧ t.parental.minuteExpiry = some 10075000 ∧
    (t.path 0).state = .presenting := by decide +kernel

/-- 8.8 at 10,075,000: used 90 equals the allowance; the view path is blocked and the meter stops. -/
theorem test_minute_limit :
    let t := after .minuteExpiry ((after .minuteExpiry evening).setCount 10075000)
    t.parental.activeMeter.used = 90 ∧ (t.path 0).state = .blocked .allowance ∧
    t.parental.run = none := by decide +kernel

/-- 8.8 at 10,100,000 and 10,200,000: an UNLOCK does not override ALLOWANCE, an EXTEND of 30 lets it present. -/
theorem test_unlock_extend :
    let s := after .minuteExpiry ((after .minuteExpiry evening).setCount 10075000)
    let s := took .unlock .media (u8 0 ++ u32 0) (s.setCount 10100000)
    (s.path 0).state = .blocked .allowance ∧ (s.path 0).unlock = some ⟨501, none⟩ ∧
    let t := took .extend .media (u16 30 ++ u32 0) (s.setCount 10200000)
    t.parental.activeMeter.extension = 30 ∧ (t.path 0).state = .presenting ∧
    t.parental.minuteExpiry = some 10260000 := by decide +kernel

/-- 8.8 at 10,620,000: the edge expiry shuts the window. -/
theorem test_edge : let t := after .edgeExpiry (evening.setCount 10620000)
    t.parental.side = .outside ∧ (t.path 0).state = .blocked .window := by decide +kernel

/-- R154: at local midnight every meter is cleared. -/
theorem test_rollover : let t := after .rolloverExpiry (evening.setCount 21420000)
    t.parental.lastRollover = some 1 ∧ t.parental.meters.get 2 = ⟨0, 0, 0⟩ := by decide +kernel

/-- The part of 8.9: profile 1 active, its own PIN 1234 and its purchase-PIN flag set. -/
def pins : State :=
  let s := quiet.setCount 3000000
  let s := s.setPath 0 (onInput free501 0 none)
  (s.setInput 0 (locked 12 [0])).setParental { s.parental with
    active := 1, run := some 3000000, minuteExpiry := some 3060000
    profiles := s.parental.profiles.set 0 { defaultProfile with purchasePin := true, pin := ⟨1, 2, 3, 4⟩ } }

/-- 8.9: the third wrong PIN in a row starts a lockout of 900,000 ms. -/
theorem test_lockout :
    let s1 := took .purchase .media (u16 810 ++ u16 72 ++ u8 1 ++ u8 2 ++ u8 3 ++ u8 4) pins
    let s2 := took .unlock .media (u8 0 ++ u8 1 ++ u8 1 ++ u8 1 ++ u8 1) (s1.setCount 3004000)
    let s3 := took .extend .media (u16 15 ++ u8 2 ++ u8 2 ++ u8 2 ++ u8 2) (s2.setCount 3009000)
    s1.parental.attempts = 1 ∧ s2.parental.attempts = 2 ∧ s3.parental.attempts = 0 ∧
    s3.parental.lockout = some 3909000 := by decide +kernel

/-- 8.9 at 3,010,000: while the lockout runs the right PIN is answered PIN_LOCKED with 899,000 ms. -/
theorem test_profileSelect_locked :
    let s := (pins.setCount 3010000).setParental { pins.parental with lockout := some 3909000, run := none }
    answer (took .profileSelect .media (u8 0 ++ u32 0 ++ u8 0) s) =
      some (.pinLocked, [0, 0, 0, 0, 0, 13, 183, 184]) := by decide +kernel

theorem test_lockoutExpiry :
    let s := (pins.setCount 3909000).setParental { pins.parental with lockout := some 3909000, run := none }
    (after .lockoutExpiry s).parental.lockout = none := by decide +kernel

/-- R144: profile 2 becomes active and the start profile. -/
theorem test_profileSelect : let t := took .profileSelect .panel (u8 2 ++ u32 0 ++ u8 1) quiet
    t.parental.active = 2 ∧ t.parental.startProfile = 2 := by decide +kernel

/-- R145: an allowance of 2,000 is limited to 1,440. -/
theorem test_profileWrite :
    let body := u8 1 ++ u8 3 ++ u8 0 ++ u8 0 ++ u8 0 ++ u16 2000 ++ u16 0 ++ u16 0 ++ u32 0 ++ u32 0
    let t := took .profileWrite .media body quiet
    (t.parental.profiles.get 0).allowance = 1440 ∧ (t.parental.profiles.get 0).ceiling = 3 ∧
    (answer t).map (·.1) = some .okClamped := by decide +kernel

/-- R148: PARENTAL STATUS begins with the active and the start profile. -/
theorem test_parentalStatus :
    ((answer (took .parentalStatus .panel [] evening)).map fun x => x.2.take 2) = some [2, 0] := by
  decide +kernel

/-! ## Recording jobs -/

/-- The body of 9.7's JOB ADD: EVENT 72 of service 810, pads 120 and 300, buy, PIN 0000. -/
def addBody : List Byte :=
  u16 810 ++ u8 2 ++ u16 72 ++ u16 120 ++ u16 300 ++ u8 1 ++ u32 0

/-- 9.7: JOB ADD gives job 21, effective from 7,999,880 to 8,002,100, SCHEDULED. -/
theorem test_jobAdd : let t := took .jobAdd .media addBody busy
    (t.job 21).map (·.state) = some .scheduled ∧ (t.job 21).bind (·.startExpiry) = some 700000 ∧
    ((answer t).map fun x => (x.1, x.2.take 17)) =
      some (.ok, u8 21 ++ s64 7999880 ++ s64 8002100 |>.map (·.toNat)) := by decide +kernel

/-- 9.7 at 700,000: the start sets up path 5, pre-empts input 1 and buys the event. -/
theorem test_jobStart :
    let t := after (.jobStart 21) ((took .jobAdd .media addBody busy).setCount 700000)
    (t.job 21).map (·.state) = some .active ∧ (t.job 21).bind (·.graceExpiry) = some 730000 ∧
    (t.job 21).bind (·.actualStart) = some 7999880 ∧ (t.path 5).heldInput = some 1 ∧
    (t.path 1).state = .stalled .inputTaken ∧ t.access.balance = 600 := by decide +kernel

/-- 9.7, had the balance been 300: the job fails, and input 1 is tuned back for path 1. -/
theorem test_jobStart_noCredit :
    let s := busy.setAccess { busy.access with balance := 300 }
    let t := after (.jobStart 21) ((took .jobAdd .media addBody s).setCount 700000)
    (t.job 21).map (·.state) = some (.failed .noCredit) ∧ (t.path 5).state = .idle .jobEnded ∧
    (t.input 1).carrier = some 14 ∧ (t.path 1).state = .tuning := by decide +kernel

/-- 9.8: a step over two jobs makes job 30 MISSED and starts job 31. -/
theorem test_step_over_jobs :
    let job (i a b : Nat) : Job :=
      ⟨i, 501, .time, a, b, 0, 0, false, .scheduled, none, 0, none, false, some 9999999, none, none⟩
    let s := (quiet.setTime { quiet.time with baseL := 600000, baseT := 8999900000 }).setJobs
      ⟨[job 30 9000000 9000600, job 31 9000300 9003600], 31⟩
    let t := took .timeMark .network (u64 9000900000) s
    (t.job 30).map (·.state) = some .missed ∧ (t.job 31).map (·.state) = some .active ∧
    (t.job 31).bind (·.actualStart) = some 9000900 ∧ (t.job 31).bind (·.graceExpiry) = some 630000 ∧
    (t.job 31).bind (·.endExpiry) = some 3300000 := by decide +kernel

/-- R160: an ACTIVE job removed becomes FAILED(CANCELLED), and its path IDLE(JOB_ENDED). -/
theorem test_jobRemove : let t := took .jobRemove .media (u8 2) busy
    (t.job 2).map (·.state) = some (.failed .cancelled) ∧ (t.path 3).state = .idle .jobEnded ∧
    answer t = some (.ok, [2]) := by decide +kernel

/-- R160: JOB LIST from position 0, one job, begins with job 1 on service 505. -/
theorem test_jobList : ((answer (took .jobList .panel (u8 0 ++ u8 1) busy)).map fun x => x.2.take 4) =
    some [1, 1, 1, 249] := by decide +kernel

/-- R163: at the grace expiry a job on a DENIED path fails with the path's reason. -/
theorem test_grace :
    let s := busy.setJobs ⟨[{ runningJob 2 3 503 with graceExpiry := some 600000 }], 20⟩
    let s := s.setPath 3 { onInput paid506 0 (some 2) with state := .denied .notEntitled }
    (((after (.graceExpiry 2) s).job 2).map (·.state)) = some (.failed (.access .notEntitled)) := by
  decide +kernel

/-- R161: a start due job starts when a record path is IDLE. -/
theorem test_startDue :
    let j : Job := ⟨9, 501, .time, 7999000, 8002000, 0, 0, false, .scheduled, none, 0, none, true, none,
      some 90000000, none⟩
    let t := after (.startDueJobStart 9) (quiet.setJobs ⟨[j], 9⟩)
    (t.job 9).map (·.state) = some .active ∧ (t.path 2).job = some 9 := by decide +kernel

/-! ## Power and the stored image -/

/-- The part of 10.5 at count 5,000,000: a VERIFY on tag 0, an open staging lineup, the image dirty. -/
def sleepy : State :=
  let s := (quiet.setCount 5000000).setTime { quiet.time with baseL := 5000000, holdover := none }
  let s := (s.setInput 0 (locked 12 [0])).setPath 0 (onInput free501 0 none)
  let s := s.setParental { s.parental with run := some 5000000 }
  let s := s.setCard { s.card with outstanding :=
    [⟨0, .verify .network 4 (grantBody 1 (u8 8 ++ u8 0 ++ u32 0)) false, 4999900, some 5000300, none, 0, false⟩] }
  let s := s.setStore { s.store with
    dirty := [.access], dirtySince := some 4999500, commitDelay := some 5001500 }
  s.setStaging (some ⟨44, someLineup.carriers, someLineup.services⟩)

/-- 10.5 at 5,000,000: QUIESCING, path 0 IDLE(STANDBY), a write forced with a timeout at 5,010,000. -/
theorem test_standby : let t := took .standby .panel [] sleepy
    t.power.state = .quiescing ∧ (t.path 0).state = .idle .standby ∧ t.store.dirty = [] ∧
    t.store.write.map (·.timeout) = some 5010000 ∧ answer t = some (.ok, [2]) := by decide +kernel

/-- 10.5 at 5,000,120 and 5,000,180: the grant is applied, and the lineup is held. -/
theorem test_held :
    let s := after (.cardDone 0 (.verdict true)) ((took .standby .panel [] sleepy).setCount 5000120)
    let t := took .lineupEnd .network [] (s.setCount 5000180)
    s.store.dirty = [.access] ∧ t.power.held.map (·.version) = some 44 ∧ t.staging = none ∧
    answer t = some (.ok, [2]) := by decide +kernel

/-- 10.5 at 5,000,400 and 5,000,750: the next write begins at once; at its end the drain commits version 44. -/
theorem test_drain :
    let s := after (.cardDone 0 (.verdict true)) ((took .standby .panel [] sleepy).setCount 5000120)
    let s := took .lineupEnd .network [] (s.setCount 5000180)
    let s := after .flashWriteComplete (s.setCount 5000400)
    s.store.write.map (·.timeout) = some 5010400 ∧
    let t := after .flashWriteComplete (s.setCount 5000750)
    t.power.state = .standby ∧ t.lineup.version = 44 ∧ t.store.dirty = [.lineup] ∧
    t.store.commitDelay = some 5002750 := by decide +kernel

/-- 10.5, had WAKE come at 5,000,300: ACTIVE, and the held commit sets the commit delay to 5,002,300. -/
theorem test_wake :
    let s := after (.cardDone 0 (.verdict true)) ((took .standby .panel [] sleepy).setCount 5000120)
    let s := took .lineupEnd .network [] (s.setCount 5000180)
    let t := took .wake .panel [] (s.setCount 5000300)
    t.power.state = .active ∧ t.lineup.version = 44 ∧ t.store.commitDelay = some 5002300 := by
  decide +kernel

/-- R172: with nothing to wait for, QUIESCING ends. -/
theorem test_drainComplete :
    (after .drainComplete ((quiet.setPower ⟨.quiescing, none⟩).setCard State.reset.card)).power.state =
      .standby := by decide +kernel

/-- R181: POWER STATUS begins with the power state. -/
theorem test_powerStatus :
    ((answer (took .powerStatus .media [] quiet)).map fun x => x.2.take 1) = some [1] := by decide +kernel

/-- R177, R178: the commit delay begins a write; an error puts every section back. -/
theorem test_write : let s := after .commitDelayExpiry (State.reset.setCount 2000)
    s.store.write.map (·.timeout) = some 12000 ∧ s.store.dirty = [] ∧
    (after .flashWriteError s).store.dirty = [.lineup, .access, .parental, .jobs, .settings] ∧
    (after .writeTimeout (s.setCount 12000)).store.lastWrite = .failed := by decide +kernel

/-- R178: WRITE BEGIN writes a dirty image that nothing holds back. -/
theorem test_writeBegin :
    let s := quiet.setStore { quiet.store with dirty := [.jobs], dirtySince := some 590000 }
    (after .writeBegin s).store.write.isSome = true := by decide +kernel

/-- R179: a power reset takes a good image; the lockout left of 8.9's power reset stands at 419,000. -/
theorem test_powerReset :
    let s := (pins.setCount 3490000).setParental { pins.parental with lockout := some 3909000, run := none }
    let t := after .powerReset (after .flashWriteComplete (after .writeBegin
      (s.setStore { s.store with dirty := [.parental] })))
    t.store.loadGood = true ∧ t.parental.lockout = some 419000 ∧ t.lineup = someLineup ∧
    t.access.balance = 1000 ∧ t.localCount = 0 := by decide +kernel

/-- R179: a bad image leaves the defaults and a FAULT notice. -/
theorem test_powerReset_bad : let t := after .powerReset quiet
    t.store.loadGood = false ∧ t.lineup.version = 0 ∧ t.leadNotices = [.fault] := by decide +kernel

/-- R180, R168: PART RESET sets a job within its span up again at once. -/
theorem test_partReset : let t := took .partReset .media [] busy
    (t.path 0).state = .idle .reset ∧ t.card.state = .resetting ∧ (t.link .media).queue = [] ∧
    t.lead = some .media ∧ (t.job 1).map (·.state) = some .active ∧ (t.path 2).state = .tuning := by
  decide +kernel

/-! ## Links, lead and notices -/

/-- 11.5: the panel agent's HELLO makes it the lead, and LEAD is raised beside FAULT. -/
theorem test_hello :
    let t := after (.hello .panel) (after (.frameArrival .panel (.ends ⟨1, 1, 1, u8 1⟩)) State.reset)
    t.lead = some .panel ∧ t.leadNotices = [.fault, .lead] ∧ attention t .panel = true ∧
    attention t .media = false := by decide +kernel

/-- 11.5: when the panel's reset line is held its queue is dropped and the media agent becomes the lead. -/
theorem test_lead_goes :
    let s := (State.reset.setLead (some .panel)).setAgents
      ⟨{ resetLink with ready := true }, resetLink, { resetLink with ready := true, queue := [⟨1, 48, []⟩] }⟩
    let t := after (.agentResetHeld .panel) s
    t.lead = some .media ∧ (t.link .panel).queue = [] ∧ (t.link .panel).up = false ∧
    attention t .media = true ∧ ((after (.agentResetReleased .panel) t).link .panel).up = true := by
  decide +kernel

/-- R182: a link tag of 16 is a bad frame; the fifth request is answered FULL. -/
theorem test_frames :
    answer (after (.frameArrival .media (.ends ⟨16, 7, 0, []⟩)) State.reset) = some (.badFrame, []) ∧
    answer (after (.frameArrival .media (.ends ⟨1, 7, 0, []⟩)) (State.reset.setLink .media
      { resetLink with queue := List.replicate 4 ⟨0, 7, []⟩ })) = some (.full, []) := by decide +kernel

/-- R182, R187: a transfer that is not completed 50 ms after its start, at count 600,000, is loss of the link,
which is UP again; a millisecond before the expiry is not due. -/
theorem test_frameTimeout :
    let s := after (.frameArrival .media .begins) quiet
    dueCommand (s.setCount 600049) = none ∧ dueCommand (s.setCount 600050) = some (.frameTimeout .media) ∧
    (after (.frameTimeout .media) (s.setCount 600049)).link .media = s.link .media ∧
    (after (.frameTimeout .media) (s.setCount 600050)).link .media = resetLink := by decide +kernel

/-- R184: code 99 names no request; TIME MARK is not the media agent's; a disabled agent is refused. -/
theorem test_head_checks :
    answer (after (.unknownRequest .media) (State.reset.setLink .media
      { resetLink with queue := [⟨3, 99, []⟩] })) = some (.unknownRequest, []) ∧
    answer (took .timeMark .media (u64 1) quiet) = some (.notPermitted, []) ∧
    answer (took .stepPath .panel (u8 1 ++ u8 1) quiet) = some (.notPermitted, []) := by decide +kernel

/-- R188: RESIGN leaves the lead to the other eligible agent. -/
theorem test_resign :
    let s := quiet.setLink .network { resetLink with ready := true }
    (took .resign .media [] s).lead = some .network := by decide +kernel

/-- R190. -/
theorem test_disable_enable : let s := took .disable .media (u8 3) quiet
    (s.link .panel).disabled = true ∧
    ((took .enable .media (u8 3) s).link .panel).disabled = false := by decide +kernel

/-- R192: a class pending for its old target moves to the new one. -/
theorem test_noticeMap :
    let s := quiet.setLink .panel { resetLink with notices := [.job] }
    let t := took .noticeMap .media (u8 7 ++ u8 4) s
    t.targetOf .job = .lead ∧ t.leadNotices = [.job] ∧ (t.link .panel).notices = [] := by decide +kernel

/-- 11.5: READ NOTICES by the lead returns FAULT and LEAD, bits 8 and 11, and empties both sets. -/
theorem test_readNotices :
    let t := took .readNotices .media [] (quiet.setLeadNotices [.fault, .lead])
    t.leadNotices = [] ∧ answer t = some (.ok, [9, 0]) ∧ attention t .media = false := by decide +kernel

/-- R192: LINK STATUS gives agent 1 UP, ready, not disabled, with one request in its queue. -/
theorem test_linkStatus :
    ((answer (took .linkStatus .media [] quiet)).map fun x => x.2.take 4) = some [1, 1, 0, 1] := by
  decide +kernel

/-! ## The step -/

/-- Right after reset nothing is due, and the local count advances. -/
theorem test_tick : ∃ t, step State.reset = .next t ∧ t.localCount = 1 := ⟨_, rfl, rfl⟩

/-- The command at the front is taken and leaves the queue. -/
theorem test_front :
    (match step (State.reset.setPending [.agentResetHeld .panel, .cardInsertion]) with
      | .next t => some (t.pending, (t.link .panel).up)
      | _ => none) = some ([.cardInsertion], false) := by decide +kernel

/-! ## Witnesses

For each statement with hypotheses: states and operands that meet the hypotheses of each of its clauses. -/

theorem taken (q : Req) (a : Agent) (body : List Byte) (s : State)
    (h : headRefusal q a body (asked q a body s) = none) :
    Taken (asked q a body s) a q 5 body [] := taken_asked h

/-- A request at the head of an agent's queue, whatever the checks answer. -/
theorem atHead (q : Req) (a : Agent) (body : List Byte) (s : State) :
    AtHead (asked q a body s) a q 5 body [] := by
  refine ⟨?_, ?_⟩ <;> cases a <;> rfl

theorem of_none {α : Type} {o : Option α} {P : α → Prop} (h : o = none) : ∀ x, o = some x → P x :=
  fun x hx => by rw [h] at hx; cases hx

theorem of_all {α : Type} {o : Option α} {P : α → Prop} [DecidablePred P]
    (h : o.all (fun x => decide (P x)) = true) : ∀ x, o = some x → P x :=
  fun x hx => by rw [hx] at h; exact of_decide_eq_true h

/-- `Settled`, computed. -/
def settles (s : State) : Bool :=
  s.gatesDue.isEmpty && (s.claimQueue.isEmpty || (lowestFree s).isNone) &&
    (s.jobs.list.all (fun j => !j.startDue) || (idleRecordPath s).isNone) &&
    (s.card.waiting.isEmpty || s.card.state != .ready || (freeTag s.card).isNone) && !cardIdle s &&
    (!inStandby s || decide (s.power.state = .service ↔ s.card.state = .waking ∨ s.card.state = .ready)) &&
    (s.power.state != .quiescing || !drained s)

theorem settled {s : State} (h : settles s = true) : Settled s := by
  simp only [settles, Bool.and_eq_true, Bool.or_eq_true, List.isEmpty_iff, Option.isNone_iff_eq_none,
    bne_iff_ne, Bool.not_eq_true', decide_eq_true_eq] at h
  obtain ⟨⟨⟨⟨⟨⟨h1, h2⟩, h3⟩, h4⟩, h5⟩, h6⟩, h7⟩ := h
  refine ⟨h1, h2, h3, ?_, h5, ?_, ?_⟩
  · rcases h4 with (h | h) | h
    · exact .inl h
    · exact .inr (.inl h)
    · exact .inr (.inr h)
  · intro hi
    rcases h6 with h | h
    · rw [hi] at h; cases h
    · exact h
  · intro hq
    rcases h7 with h | h
    · exact absurd hq h
    · exact h

/-- Whether a record path could not be in a state (R71). -/
def viewOnly : PathState → Bool
  | .stalled .inputTaken => true
  | .blocked _ => true
  | _ => false

theorem holdersOk {s : State}
    (h1 : ∀ i p, p ∈ (s.input i).holders ↔ (s.path p).heldInput = some i)
    (h2 : ∀ i, (s.input i).holders.Pairwise (· < ·))
    (h3 : ∀ i, ((s.input i).state = .free ↔ (s.input i).holders = []) ∧
      ((s.input i).state = .free ↔ (s.input i).carrier = none))
    (h4 : ∀ p, (s.path p).snapshot = none → (s.path p).heldInput = none)
    (h5 : ∀ p : PathNo, 2 ≤ p.val → (s.path p).snapshot ≠ none → (s.path p).heldInput ≠ none)
    (h6 : s.claimQueue.Nodup ∧ ∀ p, p ∈ s.claimQueue ↔
      p.val < 2 ∧ (s.path p).snapshot ≠ none ∧ (s.path p).heldInput = none)
    (h7 : ∀ p : PathNo, 2 ≤ p.val → viewOnly (s.path p).state = false) : HoldersOk s :=
  ⟨h1, h2, h3, h4, h5, h6, fun p hp => by
    have h := h7 p hp
    constructor
    · intro e; rw [e] at h; cases h
    · intro r e; rw [e] at h; cases h⟩

/-- Whether a path without a snapshot is IDLE. -/
def isIdle : PathState → Bool
  | .idle _ => true
  | _ => false

theorem viewsOk {s : State} (h : ∀ p, (s.path p).snapshot = none → isIdle (s.path p).state = true)
    (g : s.power.state ≠ .active → ∀ p : PathNo, p.val < 2 → (s.path p).snapshot = none) : ViewsOk s :=
  ⟨fun p hp => (by
    have := h p hp
    generalize (s.path p).state = x at this
    cases x <;> first
      | exact ⟨_, rfl⟩
      | cases this), g⟩

theorem busy_settled : Settled busy := settled (by decide +kernel)
theorem quiet_settled : Settled quiet := settled (by decide +kernel)
theorem busy_holdersOk : HoldersOk busy := by apply holdersOk <;> decide +kernel
theorem quiet_holdersOk : HoldersOk quiet := by apply holdersOk <;> decide +kernel

/-! ### The queue of commands and the resets -/

theorem witness_StepTakesFront :
    ((quiet.setPending [.powerReset]).pending = .powerReset :: []) := rfl

theorem witness_StepTakesFront_StepOnEmptyQueue :
    (busy.pending = [] ∧ dueCommand (busy.setCount 660000) = some .sweepExpiry) ∧
    (State.reset.pending = [] ∧ dueCommand State.reset = none) := by decide +kernel

theorem witness_CommandsComplete_CountSetByPowerResetAlone :
    (∃ s t, exec .powerReset s = .next t) ∧ (∃ s t, exec .sweepExpiry s = .next t) :=
  ⟨⟨quiet, _, rfl⟩, ⟨quiet, _, rfl⟩⟩

/-- `quiet` after its image has been written. -/
def written : State :=
  after .flashWriteComplete (after .writeBegin
    (quiet.setStore { quiet.store with dirty := [.lineup], dirtySince := some 590000 }))

theorem witness_PowerReset :
    (∃ (s : State) (m : Image), goodImage s.store.flash = some m) ∧ (∃ s : State, goodImage s.store.flash = none) :=
  ⟨⟨written, imageOf written, by decide +kernel⟩, ⟨State.reset, by decide +kernel⟩⟩

theorem witness_PartReset : ∃ s a tag rest, Taken s a .partReset tag [] rest :=
  ⟨_, _, _, _, taken .partReset .media [] busy (by decide +kernel)⟩

/-! ### Agent links, lead and notices -/

theorem witness_FrameArrivalJudged :
    (∃ (a : Agent) (s : State), (s.link a).up = false) ∧
    (∀ f ∈ [Frame.mk 16 1 0 [], Frame.mk 15 1 513 (List.replicate 513 0), Frame.mk 15 1 1 []],
      (State.reset.link .media).up = true ∧
        (15 < f.linkTag ∨ 512 < f.length ∨ f.body.length < f.length)) ∧
    (∀ l ∈ [3, 4], ∃ s : State, (s.link .media).up = true ∧ (s.link .media).queue.length = l) ∧
    (∃ f : Frame, f.linkTag = 15 ∧ f.length = 512 ∧ f.length ≤ f.body.length) := by
  refine ⟨⟨.panel, after (.agentResetHeld .panel) State.reset, by decide +kernel⟩, by decide +kernel, ?_,
    ⟨⟨15, 1, 512, List.replicate 512 0⟩, rfl, rfl, by decide +kernel⟩⟩
  intro l hl
  exact ⟨State.reset.setLink .media { resetLink with queue := List.replicate l ⟨0, 7, []⟩ }, rfl,
    List.length_replicate⟩

theorem witness_HeadChecks :
    (∃ (s : State) (a : Agent) (r : Request) (rest : List Request),
      (s.link a).queue = r :: rest ∧ (s.link a).waiting = false ∧ requestOf r.code = none) ∧
    (∃ s a tag body rest, AtHead s a .timeMark tag body rest ∧ permission .timeMark a = .no) ∧
    (∃ s tag body rest, AtHead s .panel .stepPath tag body rest ∧ body.head? = some 1) ∧
    (∃ s a tag body rest, AtHead s a .wake tag body rest ∧ permission .wake a ≠ .no ∧
      ¬(a = .panel ∧ Req.wake = .stepPath ∧ body.head? = some 1) ∧ (s.link a).disabled = true) ∧
    (∃ s a tag body rest, AtHead s a .partReset tag body rest ∧ (s.link a).disabled = false ∧
      permission .partReset a = .lead ∧ s.lead ≠ some a) ∧
    (∃ (s : State) (a : Agent), (s.head a).all (fun r => r.code != Req.wake.code) = true) :=
  ⟨⟨State.reset.setLink .media { resetLink with queue := [⟨3, 99, []⟩] }, .media, _, _, rfl, rfl, by decide⟩,
    ⟨_, _, _, _, _, atHead .timeMark .media (u64 1) quiet, by decide⟩,
    ⟨_, _, _, _, atHead .stepPath .panel [1, 2] quiet, rfl⟩,
    ⟨(asked .wake .media [] quiet).setLink .media
      { (asked .wake .media [] quiet).link .media with disabled := true },
      .media, 5, [], [], ⟨rfl, rfl⟩, by decide, by decide, rfl⟩,
    ⟨(asked .partReset .media [] quiet).setLead none, .media, 5, [], [], ⟨rfl, rfl⟩, rfl, by decide, by decide⟩,
    ⟨State.reset, .media, by decide⟩⟩

/-- The panel agent's link with a transfer begun at count 600,000. -/
def transferring : State := after (.frameArrival .panel .begins) quiet

theorem witness_LinkResets :
    (∀ a : Agent, (busy.link a).up = true) ∧
    (∃ (s : State) (b : Count), (s.link .panel).up = true ∧ (s.link .panel).transfer = some b ∧
      b + 50 = s.localCount) ∧
    (∃ (s : State) (b : Count), (s.link .panel).transfer = some b ∧ s.localCount + 1 = b + 50) ∧
    (∃ (s : State) (a : Agent), (s.link a).up = false) ∧
    (∃ s : State, (s.link .network).up = true ∧ s.lead = some .network ∧ s.staging.isSome = true) :=
  ⟨fun a => by cases a <;> rfl, ⟨transferring.setCount 600050, 600000, by decide +kernel⟩,
    ⟨transferring.setCount 600049, 600000, by decide +kernel⟩,
    ⟨after (.agentResetHeld .panel) State.reset, .panel, by decide +kernel⟩,
    ⟨(asked .lineupBegin .network [] quiet).setStaging (some ⟨1, [], []⟩), by decide +kernel⟩⟩

theorem witness_HelloAndResign :
    (∀ flag : Bool, ∃ s a tag rest, Taken s a .hello tag [if flag then 1 else 0] rest) ∧
    (∃ s a tag body rest, Taken s a .hello tag body rest ∧ body ≠ [0] ∧ body ≠ [1]) ∧
    (∃ s a tag rest, Taken s a .resign tag [] rest) :=
  ⟨fun flag => ⟨_, _, _, _, taken .hello .media [if flag then 1 else 0] quiet (by cases flag <;> decide +kernel)⟩,
    ⟨_, _, _, _, _, taken .hello .media [2] quiet (by decide +kernel), by decide, by decide⟩,
    ⟨_, _, _, _, taken .resign .media [] quiet (by decide +kernel)⟩⟩

theorem witness_DisableEnable :
    (∀ flag : Bool, ∃ s a tag body rest, Taken s a .disable tag body rest ∧
      fields [1] body = some [agentNumber .panel] ∧ .panel ≠ a ∧ (s.link .panel).disabled = flag ∧
      s.power.state ≠ .quiescing) ∧
    (∀ flag : Bool, ∃ s a tag body rest, Taken s a .enable tag body rest ∧
      fields [1] body = some [agentNumber .network] ∧ .network ≠ a ∧ (s.link .network).disabled = flag ∧
      s.power.state ≠ .quiescing) ∧
    (∀ n ∈ [0, 4, 1], ∃ s tag body rest, Taken s .media .disable tag body rest ∧
      fields [1] body = some [n] ∧ (n = 0 ∨ 3 < n ∨ n = agentNumber .media)) ∧
    (∃ s tag body rest, Taken s .media .enable tag body rest ∧ fields [1] body = some [255]) := by
  refine ⟨fun flag => ⟨_, _, _, _, _, taken .disable .media (u8 3)
      (quiet.setLink .panel { resetLink with disabled := flag }) (by revert flag; decide +kernel), by decide,
      by decide, rfl, by revert flag; decide +kernel⟩,
    fun flag => ⟨_, _, _, _, _, taken .enable .media (u8 2)
      (quiet.setLink .network { resetLink with disabled := flag }) (by revert flag; decide +kernel), by decide,
      by decide, rfl, by revert flag; decide +kernel⟩, ?_,
    ⟨_, _, _, _, taken .enable .media (u8 255) quiet (by decide +kernel), by decide⟩⟩
  exact fun n hn => ⟨_, _, _, _, taken .disable .media (u8 n) quiet (by revert n; decide +kernel),
    by revert n; decide, by revert n; decide⟩

theorem witness_NoticesMovedAndRead :
    (∃ s a tag body rest, Taken s a .noticeMap tag body rest ∧
      fields [1, 1] body = some [NoticeClass.job.code, Target.lead.code] ∧
      s.targetOf .job ≠ .lead ∧ pendingAt .job s (s.targetOf .job) = true) ∧
    (∃ s a tag body rest, Taken s a .noticeMap tag body rest ∧
      fields [1, 1] body = some [NoticeClass.job.code, (Target.agent .panel).code] ∧
      s.targetOf .job = .agent .panel) ∧
    (∃ s a tag body rest, Taken s a .noticeMap tag body rest ∧ fields [1, 1] body = some [11, 255]) ∧
    (∃ s a tag rest, Taken s a .readNotices tag [] rest ∧ s.lead = some a ∧ s.leadNotices ≠ []) :=
  ⟨⟨_, _, _, _, _, taken .noticeMap .media (u8 NoticeClass.job.code ++ u8 4)
      (quiet.setLink .panel { resetLink with notices := [.job] }) (by decide +kernel),
      by decide, by decide +kernel, by decide +kernel⟩,
    ⟨_, _, _, _, _, taken .noticeMap .media (u8 NoticeClass.job.code ++ u8 3) quiet (by decide +kernel),
      by decide, by decide +kernel⟩,
    ⟨_, _, _, _, _, taken .noticeMap .media (u8 11 ++ u8 255) quiet (by decide +kernel), by decide⟩,
    ⟨_, _, _, _, taken .readNotices .media [] (quiet.setLeadNotices [.fault]) (by decide +kernel),
      by decide +kernel, by decide +kernel⟩⟩

theorem witness_ReadsOnlyReply :
    (∀ q ∈ [Req.linkStatus, .timeRead, .inputRead, .cardStatus, .faultRead, .parentalStatus,
      .powerStatus], ∀ body ∈ [[], [(0 : Byte)]], ∃ s a tag rest, Taken s a q tag body rest) ∧
    (∀ x ∈ [(1, 1, 1), (1, 9999, 16), (2, 1, 1), (2, 255, 16)], ∃ s a tag body rest,
      Taken s a .lineupRead tag body rest ∧ fields [1, 2, 1] body = some [x.1, x.2.1, x.2.2]) ∧
    (∀ x ∈ [(1, 0, 1), (65535, 4294967295, 16)], ∃ s a tag body rest,
      Taken s a .guideRead tag body rest ∧ fields [2, 4, 1] body = some [x.1, x.2.1, x.2.2]) ∧
    (∀ n ∈ [0, 5, 255], ∃ s a tag body rest,
      Taken s a .pathRead tag body rest ∧ fields [1] body = some [n]) ∧
    (∀ x ∈ [(1, 0, 1), (2, 63, 16)], ∃ s a tag body rest,
      Taken s a .entitlementRead tag body rest ∧ fields [1, 1, 1] body = some [x.1, x.2.1, x.2.2]) ∧
    (∀ x ∈ [(0, 1), (31, 16)], ∃ s a tag body rest,
      Taken s a .jobList tag body rest ∧ fields [1, 1] body = some [x.1, x.2]) :=
  ⟨fun q hq body hb => ⟨_, _, _, _, taken q .media body quiet (by revert q body; decide +kernel)⟩,
    fun x hx => ⟨_, _, _, _, _, taken .lineupRead .media (u8 x.1 ++ u16 x.2.1 ++ u8 x.2.2) quiet
      (by revert x; decide +kernel), by revert x; decide⟩,
    fun x hx => ⟨_, _, _, _, _, taken .guideRead .media (u16 x.1 ++ u32 x.2.1 ++ u8 x.2.2) quiet
      (by revert x; decide +kernel), by revert x; decide⟩,
    fun x hx => ⟨_, _, _, _, _, taken .pathRead .media (u8 x) quiet
      (by revert x; decide +kernel), by revert x; decide⟩,
    fun x hx => ⟨_, _, _, _, _, taken .entitlementRead .media (u8 x.1 ++ u8 x.2.1 ++ u8 x.2.2) quiet
      (by revert x; decide +kernel), by revert x; decide⟩,
    fun x hx => ⟨_, _, _, _, _, taken .jobList .media (u8 x.1 ++ u8 x.2) quiet
      (by revert x; decide +kernel), by revert x; decide⟩⟩

theorem witness_LinksKept : ∃ s t : State, LeadOk s ∧ QueuesOk s ∧ step s = .next t := by
  refine ⟨asked .wake .media [] quiet, _, ?_, ?_, rfl⟩
  · intro a h
    have : some Agent.media = some a := h
    cases this
    rfl
  · intro a
    cases a <;> decide +kernel

/-! ### What every step keeps -/

theorem busy_guideOk : GuideOk busy := by constructor <;> decide +kernel
theorem busy_viewsOk : ViewsOk busy := viewsOk (by decide +kernel) (by decide +kernel)
theorem busy_tablesOk : TablesOk busy := by
  constructor
  · decide +kernel
  · decide +kernel
  · decide +kernel
  · exact of_none rfl
  · decide +kernel
theorem quiet_tablesOk (j : Job) : TablesOk (quiet.setJobs ⟨[j], 9⟩) where
  tiers := by
    show quiet.access.tiers.length ≤ 64 ∧ quiet.access.tiers.Pairwise fun r q => r.tier < q.tier
    decide +kernel
  purchases := by
    show quiet.access.purchases.length ≤ 64 ∧
      quiet.access.purchases.Pairwise fun r q => r.service ≠ q.service ∨ r.event ≠ q.event
    decide +kernel
  jobs := ⟨by show (1 : Nat) ≤ 32; decide, by simp⟩
  staging := of_none rfl
  outstanding := by
    show (quiet.card.outstanding.map (·.tag)).Nodup ∧ ∀ e ∈ quiet.card.outstanding, e.tag < 4
    decide +kernel
theorem busy_meterOk : MeterOk busy := by constructor <;> decide +kernel

theorem HoldersOk_setPending {s : State} (l : List Instr) (h : HoldersOk s) : HoldersOk (s.setPending l) :=
  ⟨h.1, h.2, h.3, h.4, h.5, h.6, h.7⟩
theorem TablesOk_setPending {s : State} (l : List Instr) (h : TablesOk s) : TablesOk (s.setPending l) :=
  ⟨h.1, h.2, h.3, h.4, h.5⟩
theorem MeterOk_setPending {s : State} (l : List Instr) (h : MeterOk s) : MeterOk (s.setPending l) :=
  ⟨h.1, h.2, h.3⟩

theorem witness_RangesAndTablesKept_RangesKept :
    ∃ s t : State, ClockOk s ∧ BalanceOk s ∧ AttemptsOk s ∧ WaitingOk s ∧ step s = .next t :=
  ⟨busy.setPending [.flashWriteError], _, by unfold ClockOk; decide +kernel, by unfold BalanceOk; decide +kernel,
    by unfold AttemptsOk; decide +kernel, by unfold WaitingOk; decide +kernel, rfl⟩

theorem witness_GuideKept : ∃ s t : State, GuideOk s ∧ step s = .next t :=
  ⟨busy.setPending [.sweepExpiry], _, busy_guideOk, rfl⟩

theorem witness_ViewsAndInBandKept_ViewsKept : ∃ s t : State, ViewsOk s ∧ step s = .next t :=
  ⟨busy.setPending [.sweepExpiry], _, busy_viewsOk, rfl⟩

theorem witness_ViewsAndInBandKept_InBandKept : ∃ s t : State, InBandOk s ∧ step s = .next t :=
  ⟨busy.setPending [.tunerUnlock 0 9], _, by unfold InBandOk; decide +kernel, rfl⟩

theorem witness_HoldersKept : ∃ s t : State, HoldersOk s ∧ step s = .next t :=
  ⟨busy.setPending [.tunerUnlock 0 9], _, HoldersOk_setPending _ busy_holdersOk, rfl⟩

theorem witness_RangesAndTablesKept_TablesKept : ∃ s t : State, TablesOk s ∧ step s = .next t :=
  ⟨busy.setPending [.jobEndExpiry 1], _, TablesOk_setPending _ busy_tablesOk, rfl⟩

theorem witness_MeterKept : ∃ s t : State, ViewsOk s ∧ MeterOk s ∧ s.gatesDue = [] ∧ step s = .next t :=
  ⟨busy.setPending [.minuteExpiry], _, busy_viewsOk, MeterOk_setPending _ busy_meterOk, rfl, rfl⟩

theorem busy_startDueOk : StartDueOk busy := by unfold StartDueOk; decide +kernel

theorem witness_SettledKept : ∃ s t : State, TablesOk s ∧ StartDueOk s ∧ Settled s ∧ step s = .next t :=
  ⟨busy.setPending [.jobEndExpiry 1], _, TablesOk_setPending _ busy_tablesOk, busy_startDueOk,
    settled (by decide +kernel), rfl⟩

theorem witness_ActionEnds_SettledStays : Settled busy := busy_settled

/-- View path 0 waits for carrier 12, which input 1 has (first) or no input has (second). -/
def waits (c : Nat) : State :=
  let s := quiet.setInput 1 ⟨.locked, some c, [2], 7, 0, none, none⟩
  let s := s.setPath 0
    { onInput free501 0 none with state := .stalled .inputTaken, heldInput := none }
  (s.setPath 2 (onInput free505 1 none)).setClaimQueue [0]

theorem witness_ActionEnds_QueueServed : ∀ c ∈ [12, 14], (waits c).claimQueue = [0] ∧ NoStartDue (waits c) ∧
    (waits c).power.state = .active ∧ ((waits c).path 0).snapshot = some free501 ∧
    lowestFree (waits c) = some 0 ∧ (inputWith (waits c) free501.carrier).isSome = (c == 12) := by
  unfold NoStartDue
  decide +kernel

/-! ### Network time -/

theorem witness_TimeMarkTaken :
    (∃ s a tag body rest, Taken s a .timeMark tag body rest ∧ fields [8] body = some [5] ∧
      s.time.source = .inBand) ∧
    (∃ s a tag body rest, Taken s a .timeMark tag body rest ∧ fields [8] body = some [2 ^ 48 - 1] ∧
      s.time.source = .outOfBand ∧ s.time.state = .unset) ∧
    (∃ s a n tag body rest, Taken s a .timeMark tag body rest ∧ fields [8] body = some [n] ∧
      s.time.source = .outOfBand ∧ s.time.state ≠ .unset ∧ (n : Int) - (s.netMs : Int) = -600001) ∧
    (∀ e ∈ [-600000, 0, 1, 2000, 2001], ∃ s a n tag body rest, Taken s a .timeMark tag body rest ∧
      fields [8] body = some [n] ∧ s.time.source = .outOfBand ∧ s.time.state ≠ .unset ∧
      (n : Int) - (s.netMs : Int) = e) :=
  ⟨⟨_, _, _, _, _, taken .timeMark .network (u64 5)
      (quiet.setTime { quiet.time with source := .inBand }) (by decide +kernel), by decide, by decide +kernel⟩,
    ⟨_, _, _, _, _, taken .timeMark .network (u64 (2 ^ 48 - 1)) State.reset (by decide +kernel),
      by decide +kernel, by decide +kernel, by decide +kernel⟩,
    ⟨_, _, 5000120000 - 600001, _, _, _, taken .timeMark .network (u64 (5000120000 - 600001)) learning
      (by decide +kernel), by decide +kernel, by decide +kernel, by decide +kernel, by decide +kernel⟩,
    fun e he => ⟨_, _, (5000120000 + e).toNat, _, _, _,
      taken .timeMark .network (u64 (5000120000 + e).toNat) learning (by revert e; decide +kernel),
      by revert e; decide +kernel, by revert e; decide +kernel, by revert e; decide +kernel,
      by revert e; decide +kernel⟩⟩

theorem witness_NetworkTimeRuns : (0 : Count) ≤ 0 ∧ (1 : Int) ≠ 0 ∧ (-600000 : Int) ≠ 0 := by decide

theorem witness_NetworkTimeRuns_RateLearned :
    (∀ d ∈ [60000, 1800000], ∃ (t : TimeBase) (l : Count) (m : TimeMark) (p : PrevMark) (r : Int),
      t.prevMark = some p ∧ p.source = m.source ∧ p.input = m.input ∧ l - p.takenAt = d ∧
      r * ((l - p.takenAt : Nat) : Int) ≤ ((m.n : Int) - (p.n : Int)) * 65536 ∧
      ((m.n : Int) - (p.n : Int)) * 65536 < (r + 1) * ((l - p.takenAt : Nat) : Int)) ∧
    (∃ t : TimeBase, t.prevMark = none) ∧
    (∀ d ∈ [59999, 1800001], ∃ (t : TimeBase) (l : Count) (m : TimeMark) (p : PrevMark),
      t.prevMark = some p ∧ p.source = m.source ∧ p.input = m.input ∧ l - p.takenAt = d ∧
      (l - p.takenAt < 60000 ∨ 1800000 < l - p.takenAt)) :=
  ⟨fun d hd => ⟨learning.time, 1000000 + d, ⟨.outOfBand, none, 5000000000 + d⟩,
      ⟨.outOfBand, none, 5000000000, 1000000⟩, 65536, rfl, rfl, rfl, by revert d; decide, by revert d; decide,
      by revert d; decide⟩,
    ⟨State.reset.time, rfl⟩,
    fun d hd => ⟨learning.time, 1000000 + d, ⟨.outOfBand, none, 5000000000 + d⟩,
      ⟨.outOfBand, none, 5000000000, 1000000⟩, rfl, rfl, rfl, by revert d; decide, by revert d; decide⟩⟩

theorem witness_NetworkTimeRuns_ExpiryIsFirstCount : ClockOk busy := by unfold ClockOk; decide +kernel

theorem witness_TimeRequestsAndExpiries_TimeRequests :
    (∀ x ∈ [Source.outOfBand, .inBand], ∃ s a tag body rest, Taken s a .timeSource tag body rest ∧
      fields [1] body = some [x.code]) ∧
    (∀ n ∈ [0, 3], ∃ s a tag body rest, Taken s a .timeSource tag body rest ∧
      fields [1] body = some [n] ∧ n ≠ 1 ∧ n ≠ 2) ∧
    (∃ s a tag body rest, Taken s a .timeSet tag body rest ∧ fields [8] body = some [0] ∧
      s.time.state = .unset) ∧
    (∃ s a tag body rest, Taken s a .timeSet tag body rest ∧ fields [8] body = some [0] ∧
      s.time.state ≠ .unset) ∧
    (∀ n ∈ [0, 840, 841, 32767, 32768, 64815, 64816, 65535], ∃ s a tag body rest,
      Taken s a .zoneSet tag body rest ∧ fields [2] body = some [n]) :=
  ⟨fun x hx => ⟨_, _, _, _, _, taken .timeSource .media (u8 x.code) quiet (by revert x; decide +kernel),
      by revert x; decide⟩,
    fun n hn => ⟨_, _, _, _, _, taken .timeSource .media (u8 n) quiet (by revert n; decide +kernel),
      by revert n; decide, by revert n; decide, by revert n; decide⟩,
    ⟨_, _, _, _, _, taken .timeSet .media (u64 0) State.reset (by decide +kernel), by decide, by decide +kernel⟩,
    ⟨_, _, _, _, _, taken .timeSet .media (u64 0) quiet (by decide +kernel), by decide, by decide +kernel⟩,
    fun n hn => ⟨_, _, _, _, _, taken .zoneSet .media (u16 n) quiet (by revert n; decide +kernel),
      by revert n; decide⟩⟩

theorem witness_TimeRequestsAndExpiries_TimeExpiries :
    (∃ s : State, s.reached s.time.slewEnd = true) ∧ (∃ s : State, s.reached s.time.slewEnd = false) ∧
    (∃ s : State, s.reached s.time.holdover = true ∧ s.time.state = .set) ∧
    (∃ s : State, s.reached s.time.holdover = false) ∧ (∃ s : State, s.time.state ≠ .set) :=
  ⟨⟨(took .timeMark .network (u64 5000120036) learning).setCount 1123602, by decide +kernel⟩,
    ⟨(took .timeMark .network (u64 5000120036) learning).setCount 1123601, by decide +kernel⟩,
    ⟨learning.setCount 2800000, by decide +kernel⟩, ⟨learning.setCount 2799999, by decide +kernel⟩,
    ⟨State.reset, by decide +kernel⟩⟩

/-! ### The lineup -/

/-- `quiet` with a staging lineup. -/
def staged (l : Lineup) : State := quiet.setStaging (some l)

/-- 768 services, the last of them on channel 768. -/
def fullStaging : Lineup :=
  ⟨7, (List.range 96).map fun i => mkCarrier (i + 1),
    (List.range 768).map fun i => mkService (i + 1) (i + 1) 12 .free none⟩

theorem witness_LineupBeginsAndAdds :
    (∀ q ∈ [PowerState.active, .quiescing], ∃ s a v tag body rest, Taken s a .lineupBegin tag body rest ∧
      fields [2] body = some [v] ∧ s.power.state = q) ∧
    (∃ s a tag body rest, Taken s a .lineupAdd tag body rest ∧ s.staging = none) ∧
    (∀ l ∈ [someLineup, fullStaging],
      (∃ s a tag rs rest cs, Taken s a .lineupAdd tag (u8 1 ++ rs) rest ∧ s.staging = some l ∧
        recordsOf takeCarrier rs = some (.ok cs)) ∧
      (∃ s a tag rs rest vs, Taken s a .lineupAdd tag (u8 2 ++ rs) rest ∧ s.staging = some l ∧
        recordsOf takeService rs = some (.ok vs))) ∧
    (∃ s a tag rs rest l, Taken s a .lineupAdd tag (u8 1 ++ rs) rest ∧ s.staging = some l ∧
      recordsOf takeCarrier rs = some (.error (2, 2))) ∧
    (∃ s a tag rs rest l, Taken s a .lineupAdd tag (u8 2 ++ rs) rest ∧ s.staging = some l ∧
      recordsOf takeService rs = some (.error (1, 7))) ∧
    someLineup.carriers.Pairwise (fun c d => c.id ≤ d.id) ∧
    someLineup.services.Pairwise (fun v w => v.channel ≤ w.channel) := by
  refine ⟨fun q hq => ⟨asked .lineupBegin .network (u16 65535) (quiet.setPower ⟨q, none⟩), .network, 65535, 5, _, [],
      taken .lineupBegin .network (u16 65535) (quiet.setPower ⟨q, none⟩) (by revert q; decide +kernel), by decide, rfl⟩,
    ⟨_, _, _, _, _, taken .lineupAdd .network (u8 1 ++ u8 0) quiet (by decide +kernel), rfl⟩,
    fun l hl => ⟨⟨_, _, _, _, _, [mkCarrier 50],
        taken .lineupAdd .network (u8 1 ++ listBytes Carrier.bytes [mkCarrier 50]) (staged l) rfl, rfl, rfl⟩,
      ⟨_, _, _, _, _, [paid506],
        taken .lineupAdd .network (u8 2 ++ listBytes Service.bytes [paid506]) (staged l) rfl, rfl, rfl⟩⟩,
    ⟨_, _, _, _, _, someLineup, taken .lineupAdd .network
      (u8 1 ++ listBytes Carrier.bytes [mkCarrier 50, ⟨51, 49999, 0, 0⟩]) (staged someLineup) rfl, rfl, rfl⟩,
    ⟨_, _, _, _, _, someLineup, taken .lineupAdd .network
      (u8 2 ++ listBytes Service.bytes [mkService 1 1 12 (.tier 255) none]) (staged someLineup) rfl, rfl, rfl⟩,
    by decide +kernel, by decide +kernel⟩

theorem witness_LineupRecordsReadBack :
    65535 < 256 ^ 2 ∧ (255 : Nat) < 256 ^ 1 ∧ serviceError paid506 = none ∧ serviceError sold810 = none ∧
    carrierError ⟨255, 1000000, 7, 15⟩ = none ∧ carrierError ⟨1, 50000, 0, 0⟩ = none ∧
    someLineup.services.length ≤ 255 ∧ (∀ v ∈ someLineup.services, serviceError v = none) ∧
    (List.replicate 255 (mkCarrier 255)).length ≤ 255 ∧
    (∀ c ∈ List.replicate 255 (mkCarrier 255), carrierError c = none) := by decide +kernel

/-- The staged lineup gives 501 a new carrier and lacks 502. -/
def nextLineup : Lineup := ⟨43, [mkCarrier 14], [mkService 501 101 14 .free none]⟩

theorem busy_noStartDue : NoStartDue busy := by unfold NoStartDue; decide +kernel

theorem witness_LineupEnds :
    (∃ s a tag rest, Taken s a .lineupEnd tag [] rest ∧ s.staging = none) ∧
    (∀ n ∈ [1, 2, 3, 4], ∃ s a tag rest l i, Taken s a .lineupEnd tag [] rest ∧ s.staging = some l ∧
      lineupFailure l = some (n, i) ∧ s.power.state ≠ .quiescing) ∧
    (∃ s a tag rest l, Taken s a .lineupEnd tag [] rest ∧ s.staging = some l ∧ lineupFailure l = none ∧
      s.power.state ≠ .quiescing ∧ NoStartDue s ∧ TablesOk s ∧
      ((s.path 0).snapshot = some free501 ∧ (s.path 0).state ≠ .tuning ∧ (l.service 501).isSome = true) ∧
      (s.path 1).snapshot = some free502 ∧ (s.path 1).state ≠ .tuning ∧ l.service 502 = none ∧
      s.jobs.list ≠ []) ∧
    (∀ w ∈ [[], [Sect.access]], ∃ s a tag rest l, Taken s a .lineupEnd tag [] rest ∧ s.staging = some l ∧
      lineupFailure l = none ∧ s.power.state = .quiescing ∧ s.store.dirty = w) := by
  refine ⟨⟨_, _, _, _, taken .lineupEnd .network [] quiet (by decide +kernel), rfl⟩, ?_, ?_, ?_⟩
  · have bad (l : Lineup) (n i : Nat) (h : lineupFailure l = some (n, i)) :
        ∃ s a tag rest l i, Taken s a .lineupEnd tag [] rest ∧ s.staging = some l ∧
          lineupFailure l = some (n, i) ∧ s.power.state ≠ .quiescing :=
      ⟨_, _, _, _, l, i, taken .lineupEnd .network [] (staged l) rfl, rfl, h, of_decide_eq_true rfl⟩
    intro n hn
    simp only [List.mem_cons, List.not_mem_nil, or_false] at hn
    rcases hn with rfl | rfl | rfl | rfl
    · exact bad ⟨1, [mkCarrier 3, mkCarrier 3], []⟩ 1 3 (by decide +kernel)
    · exact bad ⟨1, [mkCarrier 12], [free501, mkService 501 102 12 .free none]⟩ 2 501 (by decide +kernel)
    · exact bad ⟨1, [mkCarrier 12], [free501, mkService 502 101 12 .free none]⟩ 3 101 (by decide +kernel)
    · exact bad ⟨1, [mkCarrier 12], [free501, free502]⟩ 4 502 (by decide +kernel)
  · exact ⟨_, _, _, _, nextLineup, taken .lineupEnd .network [] (busy.setStaging (some nextLineup)) rfl, rfl,
      by decide +kernel, by decide +kernel, busy_noStartDue,
      ⟨busy_tablesOk.1, busy_tablesOk.2, busy_tablesOk.3,
        of_all (o := some nextLineup) (by decide +kernel), busy_tablesOk.5⟩, by decide +kernel⟩
  · exact fun w hw => ⟨_, _, _, _, nextLineup, taken .lineupEnd .network []
      (((staged nextLineup).setPower ⟨.quiescing, none⟩).setStore { quiet.store with dirty := w }) rfl, rfl,
      by decide +kernel, rfl, rfl⟩

/-! ### The guide -/

theorem quiet_guideOk : GuideOk quiet := by constructor <;> decide +kernel

theorem witness_GuideCommandsDo :
    (∀ k ∈ [1, 16], ∃ s a sid tag, ∃ es : List GuideEvent, ∃ body bs rest, Taken s a .guideLoad tag body rest ∧
      takeFields [2] body = some ([sid], bs) ∧ 1 ≤ sid ∧
      takeList (takeEvent sid) bs = some (es.map some, []) ∧ es.length = k) ∧
    (∃ s a tag body rest, Taken s a .guideDrop tag body rest ∧ fields [2, 2] body = some [810, 73] ∧
      s.guide.event 810 73 = none) ∧
    (∃ s a tag body rest, Taken s a .guideDrop tag body rest ∧ fields [2, 2] body = some [810, 72] ∧
      s.guide.event 810 72 ≠ none ∧ s.jobs.list = [] ∧ s.power.state = .active ∧ s.timeKnown = true ∧
      ∃ p v, (s.path p).snapshot = some v ∧ v.id = 810) ∧
    (∃ s : State, s.guide.sweepExpiry ≤ s.localCount ∧ s.timeKnown = true) ∧
    (∃ s : State, s.localCount < s.guide.sweepExpiry) := by
  refine ⟨?_, ⟨_, _, _, _, _, taken .guideDrop .network (u16 810 ++ u16 73) quiet (by decide +kernel), by decide,
      by decide +kernel⟩,
    ⟨_, _, _, _, _, taken .guideDrop .network (u16 810 ++ u16 72)
      ((quiet.setPath 0 (onInput sold810 0 none)).setInput 0 (locked 40 [0])) (by decide +kernel), by decide,
      by decide +kernel, by decide +kernel, by decide +kernel, by decide +kernel, 0, sold810, by decide +kernel⟩,
    ⟨quiet.setCount 660000, by decide +kernel⟩, ⟨quiet.setCount 659999, by decide +kernel⟩⟩
  have loads (n : Nat) (h : headRefusal .guideLoad .network (u16 810 ++ (u8 n ++
      (List.replicate n (ev 1 8000000 60)).flatten)) (asked .guideLoad .network (u16 810 ++ (u8 n ++
      (List.replicate n (ev 1 8000000 60)).flatten)) quiet) = none)
      (g : takeFields [2] (u16 810 ++ (u8 n ++ (List.replicate n (ev 1 8000000 60)).flatten)) =
        some ([810], u8 n ++ (List.replicate n (ev 1 8000000 60)).flatten))
      (e : takeList (takeEvent 810) (u8 n ++ (List.replicate n (ev 1 8000000 60)).flatten) =
        some ((List.replicate n (⟨810, 1, 8000000, 60, none, 0, 0⟩ : GuideEvent)).map some, [])) :
      ∃ s a sid tag, ∃ es : List GuideEvent, ∃ body bs rest, Taken s a .guideLoad tag body rest ∧
        takeFields [2] body = some ([sid], bs) ∧ 1 ≤ sid ∧
        takeList (takeEvent sid) bs = some (es.map some, []) ∧ es.length = n :=
    ⟨_, _, 810, _, _, _, _, _, taken .guideLoad .network _ quiet h, g, by decide, e, List.length_replicate⟩
  intro k hk
  refine loads k ?_ ?_ ?_ <;> revert k <;> decide +kernel

/-- One event each of the services 1 to n, at one time. -/
def poolOf (n : Nat) : List GuideEvent := (List.range n).map fun i => ⟨i + 1, 1, 8000000, 60, none, 0, 0⟩

def crowded (n : Nat) : State := quiet.setGuide ⟨poolOf n, 660000⟩

theorem mem_poolOf {n : Nat} {f : GuideEvent} :
    f ∈ poolOf n ↔ ∃ i, i < n ∧ f = ⟨i + 1, 1, 8000000, 60, none, 0, 0⟩ := by
  simp [poolOf, eq_comm]

theorem crowded_guideOk {n : Nat} (h : n ≤ 4096) : GuideOk (crowded n) := by
  refine ⟨?_, ?_⟩
  · show (poolOf n).Pairwise _
    unfold poolOf
    rw [List.pairwise_map]
    refine List.pairwise_lt_range.imp ?_
    intro i j h e
    simp only [Nat.add_right_cancel_iff] at e
    exact absurd e (Nat.ne_of_lt h)
  · show (poolOf n).length ≤ 4096
    simpa [poolOf] using h

/-- Pools with an event that gives way, with room, and full; in a full one an event before and one after all. -/
theorem witness_EventPlaced :
    (GuideOk quiet ∧ ∃ f ∈ quiet.guide.pool, f.service = event72.service ∧ f.id = event72.id) ∧
    (GuideOk (crowded 4095) ∧ (crowded 4095).guide.pool.length = 4095) ∧
    (GuideOk (crowded 4096) ∧ (crowded 4096).guide.pool.length = 4096 ∧
      (∀ f ∈ (crowded 4096).guide.pool, f.service ≠ 5000) ∧
      (∃ e f : GuideEvent, e.service = 5000 ∧ f ∈ (crowded 4096).guide.pool ∧ e.start < f.start) ∧
      ∃ e : GuideEvent, e.service = 5000 ∧ ∀ f ∈ (crowded 4096).guide.pool, f.start < e.start) := by
  have mem (n : Nat) (f : GuideEvent) : f ∈ (crowded n).guide.pool ↔
      ∃ i, i < n ∧ f = ⟨i + 1, 1, 8000000, 60, none, 0, 0⟩ := mem_poolOf
  have len (n : Nat) : (crowded n).guide.pool.length = n := by
    show (poolOf n).length = n
    simp [poolOf]
  refine ⟨⟨quiet_guideOk, event72, by decide +kernel⟩, ⟨crowded_guideOk (by decide), len _⟩,
    crowded_guideOk (Nat.le_refl _), len _, ?_,
    ⟨⟨5000, 1, 7999999, 60, none, 0, 0⟩, ⟨4096, 1, 8000000, 60, none, 0, 0⟩, rfl,
      (mem _ _).2 ⟨4095, by decide, rfl⟩, by decide⟩,
    ⟨5000, 1, 8000001, 60, none, 0, 0⟩, rfl, ?_⟩
  · intro f hf
    obtain ⟨i, hi, rfl⟩ := (mem _ _).1 hf
    show i + 1 ≠ 5000
    omega
  · intro f hf
    obtain ⟨i, -, rfl⟩ := (mem _ _).1 hf
    exact (by decide : 8000000 < 8000001)

theorem witness_GuideLookups : GuideOk quiet ∧ quiet.guide.current 810 8000000 = some event72 ∧
    quiet.guide.current 810 8001799 = some event72 ∧ quiet.guide.current 810 7999999 = none ∧
    quiet.guide.current 810 8001800 = none := ⟨quiet_guideOk, by decide +kernel⟩

/-! ### Carrier inputs -/

/-- View path 0 on input 0, which stands in a state with an expiry due. -/
def onTuner (st : InputState) (seq : Nat) : State :=
  let s := quiet.setInput 0 ⟨st, some 12, [0], seq, 598500, if st = .tuning then some 600000 else none,
    if st = .lost then some 600000 else none⟩
  s.setPath 0 { onInput free501 0 none with state := match st with
    | .tuning => .tuning
    | .lost => .stalled .noSignal
    | _ => .presenting }

theorem onTuner_settled : ∀ st ∈ [InputState.tuning, .locked, .lost], Settled (onTuner st 9) :=
  fun st hst => settled (by revert st; decide +kernel)

theorem onTuner_unchanged : ∀ st ∈ [InputState.tuning, .locked, .lost],
    ∀ p ∈ ((onTuner st 9).input 0).holders, ((onTuner st 9).path p).state = .tuning →
      ∀ v, ((onTuner st 9).path p).snapshot = some v → commitCase (onTuner st 9).lineup v = .unchanged :=
  fun st hst p hp _ => of_all (by revert st p; decide +kernel)

theorem witness_TunerReports :
    (∃ (s : State) (i : InputNo), (s.input i).state = .free) ∧
    (∃ (s : State) (i : InputNo), (s.input i).state ≠ .free ∧ (s.input i).sequence ≠ 255) ∧
    (∀ st ∈ [InputState.tuning, .locked, .lost], ((onTuner st 9).input 0).state = st) ∧
    (∀ st ∈ [InputState.tuning, .locked, .lost], Settled (onTuner st 9) ∧
      ∀ p ∈ ((onTuner st 9).input 0).holders, ((onTuner st 9).path p).state = .tuning →
        ∀ v, ((onTuner st 9).path p).snapshot = some v →
          commitCase (onTuner st 9).lineup v = .unchanged) ∧
    ((onTuner .tuning 9).reached ((onTuner .tuning 9).input 0).tuneTimeout = true ∧
      (∀ st ∈ [InputState.tuning, .locked, .lost], ((onTuner st 9).path 0).snapshot ≠ none ∧
        ((onTuner st 9).path 0).heldInput = some 0)) ∧
    (let s := (onTuner .tuning 9).setCount 599999;
      (s.input 0).state = .tuning ∧ s.reached (s.input 0).tuneTimeout = false) :=
  ⟨⟨quiet, 0, by decide +kernel⟩, ⟨onTuner .tuning 9, 0, by decide +kernel⟩, by decide +kernel,
    fun st hst => ⟨onTuner_settled st hst, onTuner_unchanged st hst⟩, by decide +kernel, by decide +kernel⟩

theorem witness_TunerReports_Retuned :
    (∀ q ∈ [0, 254, 255], ∃ (s : State) (i : InputNo) (c : Nat) (r : Carrier), (s.input i).state = .lost ∧
      s.reached (s.input i).retune = true ∧ (s.input i).carrier = some c ∧ s.lineup.carrier c = some r ∧
      (s.input i).sequence = q) ∧
    (∃ (s : State) (i : InputNo), (s.input i).state ≠ .lost) ∧
    (∃ (s : State) (i : InputNo), (s.input i).state = .lost ∧ s.reached (s.input i).retune = false) :=
  ⟨fun q hq => ⟨onTuner .lost q, 0, 12, mkCarrier 12, by revert q; decide +kernel⟩,
    ⟨quiet, 0, by decide +kernel⟩, ⟨(onTuner .lost 9).setCount 599999, 0, by decide +kernel⟩⟩

/-- View path 0 on service 506 in a state, with a key of phase A. -/
def keyed (st : PathState) : State :=
  let s := onTuner .locked 9
  s.setPath 0 { onInput paid506 0 none with state := st, slotA := ⟨some ⟨0, 1⟩, none⟩ }

theorem keyed_settled : ∀ st ∈ [PathState.presenting, .acquiring], Settled (keyed st) :=
  fun st hst => settled (by revert st; decide +kernel)

theorem witness_PacketsForwarded :
    (∃ (s : State) (i : InputNo), (s.input i).state ≠ .locked) ∧
    (∃ (s : State) (i : InputNo) (pkt : Packet), Settled s ∧ (s.input i).state = .locked ∧
      pkt.tag ≠ 8001 ∧ (s.input i).holders.length = 2 ∧
      ∀ p ∈ (s.input i).holders, ∀ v, (s.path p).snapshot = some v → v.keyTag ≠ some pkt.tag) ∧
    (∀ st ∈ [PathState.presenting, .acquiring], ∀ m ∈ [Scrambling.clear, .phase .a, .phase .b],
      ∃ (i : InputNo) (p : PathNo) (v : Service) (pkt : Packet), Settled (keyed st) ∧
        ((keyed st).input i).state = .locked ∧ pkt.tag ≠ 8001 ∧ pkt.mark = m ∧
        ((keyed st).input i).holders = [p] ∧ ((keyed st).path p).snapshot = some v ∧
        ((keyed st).path p).state = st ∧ ∃ c ∈ v.components, c.tag = pkt.tag) :=
  ⟨⟨quiet, 0, by decide +kernel⟩,
    ⟨busy, 0, ⟨501, .clear, []⟩, busy_settled, by decide +kernel, by decide +kernel, by decide +kernel,
      fun p hp => of_all (by revert p; decide +kernel)⟩,
    fun st hst m _ => ⟨0, 0, paid506, ⟨506, m, []⟩, keyed_settled st hst, by revert st; decide +kernel,
      (by decide : 506 ≠ 8001), rfl, by revert st; decide +kernel, by revert st; decide +kernel,
      by revert st; decide +kernel, (by decide : ∃ c ∈ paid506.components, c.tag = 506)⟩⟩

theorem witness_PacketsForwarded_TimeSectionTaken :
    (∃ (s : State) (i : InputNo) (pkt : Packet), Settled s ∧ (s.input i).state = .locked ∧
      pkt.tag = 8001 ∧ s.time.source = .outOfBand) ∧
    (∃ (s : State) (i : InputNo) (pkt : Packet), Settled s ∧ (s.input i).state = .locked ∧
      pkt.tag = 8001 ∧ s.time.inBandInput ≠ some i) ∧
    (∃ (s : State) (i : InputNo) (pkt : Packet) (n : Nat), (s.input i).state = .locked ∧
      pkt.tag = 8001 ∧ fields [8] pkt.payload = some [n] ∧ s.time.source = .inBand ∧
      s.time.inBandInput = some i ∧ s.time.state = .unset) ∧
    (∀ e ∈ [-600001, -600000, 2001], ∃ (s : State) (i : InputNo) (pkt : Packet) (n : Nat),
      (s.input i).state = .locked ∧ pkt.tag = 8001 ∧ fields [8] pkt.payload = some [n] ∧
      s.time.source = .inBand ∧ s.time.inBandInput = some i ∧ s.time.state ≠ .unset ∧
      (n : Int) - (s.netMs : Int) = e) :=
  ⟨⟨busy, 0, ⟨8001, .clear, u64 7⟩, busy_settled, by decide +kernel⟩,
    ⟨busy, 1, ⟨8001, .clear, u64 7⟩, busy_settled, by decide +kernel⟩,
    ⟨busy.setTime { State.reset.time with source := .inBand, inBandInput := some 0 }, 0,
      ⟨8001, .clear, u64 7⟩, 7, by decide +kernel⟩,
    fun e he => ⟨busy.setTime { busy.time with source := .inBand }, 0,
      ⟨8001, .clear, u64 (7999780000 + e).toNat⟩, (7999780000 + e).toNat, by revert e; decide +kernel⟩⟩

/-! ### Stream paths -/

theorem HoldersOk_asked {q : Req} {a : Agent} {body : List Byte} {s : State} (h : HoldersOk s) :
    HoldersOk (asked q a body s) := by
  cases a <;> exact ⟨h.1, h.2, h.3, h.4, h.5, h.6, h.7⟩

/-- A channel change to a service id is asked for. -/
theorem asksFor (p : PathNo) (x : Nat) (s : State) (found : Option Service)
    (h : headRefusal .tunePath .media (u8 p.val ++ u8 1 ++ u16 x)
      (asked .tunePath .media (u8 p.val ++ u8 1 ++ u16 x) s) = none)
    (hp : p.val < 2) (hf : fields [1, 1, 2] (u8 p.val ++ u8 1 ++ u16 x) = some [p.val, 1, x]) (hx : 1 ≤ x)
    (e : (asked .tunePath .media (u8 p.val ++ u8 1 ++ u16 x) s).lineup.service x = found) :
    Asks (asked .tunePath .media (u8 p.val ++ u8 1 ++ u16 x) s) .media 5 [] (.tunePath .media) p found :=
  e ▸ .byId _ p x (taken .tunePath .media _ s h) hp hf hx

/-- A channel change to the service next above is asked for. -/
theorem asksUp (p : PathNo) (s : State) (found : Option Service)
    (h : headRefusal .stepPath .media (u8 p.val ++ u8 1)
      (asked .stepPath .media (u8 p.val ++ u8 1) s) = none)
    (hp : p.val < 2) (hf : fields [1, 1] (u8 p.val ++ u8 1) = some [p.val, 1])
    (e : stepFound (asked .stepPath .media (u8 p.val ++ u8 1) s) p true = found) :
    Asks (asked .stepPath .media (u8 p.val ++ u8 1) s) .media 5 [] (.stepPath .media) p found :=
  e ▸ .up _ p (taken .stepPath .media _ s h) hp hf

theorem witness_ChannelChecks :
    (∀ x ∈ [(2, 1, 1), (255, 1, 1), (0, 0, 1), (0, 3, 1), (1, 1, 0), (1, 2, 10000)],
      ∃ s a tag body rest, Taken s a .tunePath tag body rest ∧
        fields [1, 1, 2] body = some [x.1, x.2.1, x.2.2] ∧
        (2 ≤ x.1 ∨ (x.2.1 ≠ 1 ∧ x.2.1 ≠ 2) ∨ x.2.2 = 0 ∨ (x.2.1 = 2 ∧ 9999 < x.2.2))) ∧
    (∀ x ∈ [(2, 1), (0, 0), (1, 3)], ∃ s a tag body rest, Taken s a .stepPath tag body rest ∧
      fields [1, 1] body = some [x.1, x.2] ∧ (2 ≤ x.1 ∨ (x.2 ≠ 1 ∧ x.2 ≠ 2))) ∧
    (∃ s a tag rest c p found, Asks s a tag rest c p found ∧ s.power.state ≠ .active) ∧
    (∃ s a tag rest c p found, Asks s a tag rest c p found ∧ s.power.state = .active ∧ found = none) ∧
    (∃ s a tag rest c p found v w, Asks s a tag rest c p found ∧ s.power.state = .active ∧
      found = some v ∧ (s.path p).snapshot = some w ∧ w.id = v.id) ∧
    (∃ s a tag rest c p found v, Asks s a tag rest c p found ∧ s.power.state = .active ∧
      found = some v ∧ (∀ w, (s.path p).snapshot = some w → w.id ≠ v.id) ∧
      changeServable p v.carrier s = false) :=
  ⟨fun x hx => ⟨_, _, _, _, _, taken .tunePath .media (u8 x.1 ++ u8 x.2.1 ++ u16 x.2.2) quiet
      (by revert x; decide +kernel), by revert x; decide, by revert x; decide⟩,
    fun x hx => ⟨_, _, _, _, _, taken .stepPath .media (u8 x.1 ++ u8 x.2) quiet
      (by revert x; decide +kernel), by revert x; decide, by revert x; decide⟩,
    ⟨_, _, _, _, _, _, _, asksFor 0 501 (quiet.setPower ⟨.standby, none⟩) (some free501) (by decide +kernel)
      (by decide) (by decide) (by decide) (by decide +kernel), by decide +kernel⟩,
    ⟨_, _, _, _, _, _, _, asksFor 1 65535 quiet none (by decide +kernel) (by decide) (by decide) (by decide)
      (by decide +kernel), by decide +kernel, rfl⟩,
    ⟨_, _, _, _, _, _, _, free501, free501, asksFor 0 501 busy (some free501) (by decide +kernel) (by decide)
      (by decide) (by decide) (by decide +kernel), by decide +kernel, rfl, by decide +kernel, rfl⟩,
    ⟨_, _, _, _, _, _, _, sold810, asksFor 0 810 busy (some sold810) (by decide +kernel) (by decide) (by decide)
      (by decide) (by decide +kernel), by decide +kernel, rfl, of_all (by decide +kernel), by decide +kernel⟩⟩

/-- The input kept (505 for 501), shared (501 for 502), tuned again for the path alone (810 for 502), and a FREE
one tuned (501 on an IDLE path); and the next service up. -/
theorem witness_ChannelChanges :
    (∀ x ∈ [((0 : PathNo), free505), (1, free501), (1, sold810)], ∃ s a tag rest c,
      Asks s a tag rest c x.1 (some x.2) ∧ s.power.state = .active ∧ HoldersOk s ∧ NoStartDue s ∧
      (∀ w, (s.path x.1).snapshot = some w → w.id ≠ x.2.id) ∧ changeServable x.1 x.2.carrier s = true) ∧
    (∃ s a tag rest c p v, Asks s a tag rest c p (some v) ∧ s.power.state = .active ∧ HoldersOk s ∧
      NoStartDue s ∧ (s.path p).snapshot = none ∧ changeServable p v.carrier s = true) ∧
    (∃ s a tag rest p v, Asks s a tag rest (.stepPath a) p (some v) ∧ s.power.state = .active ∧
      HoldersOk s ∧ NoStartDue s ∧ (∀ w, (s.path p).snapshot = some w → w.id ≠ v.id) ∧
      changeServable p v.carrier s = true) := by
  refine ⟨fun x hx => ⟨_, .media, _, _, _, asksFor x.1 x.2.id busy (some x.2) (by revert x; decide +kernel)
      (by revert x; decide) (by revert x; decide) (by revert x; decide) (by revert x; decide +kernel), ?_,
      HoldersOk_asked busy_holdersOk, ?_, of_all (by revert x; decide +kernel), ?_⟩,
    ⟨_, .media, _, _, _, _, _, asksFor 0 501 quiet (some free501) (by decide +kernel) (by decide) (by decide)
      (by decide) (by decide +kernel), by decide +kernel, HoldersOk_asked quiet_holdersOk, ?_, by decide +kernel,
      by decide +kernel⟩,
    ⟨_, .media, _, _, _, _, asksUp 0 busy (some free502) (by decide +kernel) (by decide) (by decide)
      (by decide +kernel), by decide +kernel, HoldersOk_asked busy_holdersOk, ?_, of_all (by decide +kernel),
      by decide +kernel⟩⟩
  · revert x; decide +kernel
  · unfold NoStartDue; revert x; decide +kernel
  · revert x; decide +kernel
  · unfold NoStartDue; decide +kernel
  · unfold NoStartDue; decide +kernel

theorem witness_StepWalk : busy.lineup.services.Pairwise (fun v w => v.channel < w.channel) := by
  decide +kernel

theorem witness_PathReleased :
    (∃ s a p tag body rest, Taken s a .releasePath tag body rest ∧ fields [1] body = some [p.val] ∧
      p.val < 2 ∧ Settled s ∧ (s.path p).snapshot = none) ∧
    (∀ p ∈ [(0 : PathNo), 1], ∃ s a tag body rest i, Taken s a .releasePath tag body rest ∧
      fields [1] body = some [p.val] ∧ p.val < 2 ∧ NoStartDue s ∧ (s.path p).snapshot ≠ none ∧
      s.power.state = .active ∧ (s.path p).heldInput = some i ∧ s.claimQueue = [] ∧
      ((s.input i).holders.filter (· != p) = [] ↔ p = 1)) ∧
    (∀ n ∈ [2, 255], ∃ s a tag body rest, Taken s a .releasePath tag body rest ∧
      fields [1] body = some [n] ∧ 2 ≤ n) := by
  refine ⟨⟨asked .releasePath .media (u8 1) quiet, _, 1, _, _, _,
      taken .releasePath .media (u8 1) quiet (by decide +kernel), by decide, by decide,
      settled (by decide +kernel), by decide +kernel⟩,
    fun p hp => ⟨asked .releasePath .media (u8 p.val) busy, _, _, _, _, if p = 0 then 0 else 1,
      taken .releasePath .media (u8 p.val) busy (by revert p; decide +kernel), by revert p; decide,
      by revert p; decide, ?_, by revert p; decide +kernel, by revert p; decide +kernel,
      by revert p; decide +kernel, by revert p; decide +kernel, by revert p; decide +kernel⟩,
    fun n hn => ⟨_, _, _, _, _, taken .releasePath .media (u8 n) quiet (by revert n; decide +kernel),
      by revert n; decide, by revert n; decide⟩⟩
  unfold NoStartDue
  revert p
  decide +kernel

/-- A path with a service, in each of the gate's cases: without an input, on a TUNING, LOST and LOCKED one; DENIED,
BLOCKED, ACQUIRING and PRESENTING on a LOCKED one. -/
theorem witness_GateVerdict :
    (∃ (s : State) (p : PathNo) (v : Service), (s.path p).snapshot = some v ∧ (s.path p).heldInput = none) ∧
    (∀ st ∈ [InputState.tuning, .locked, .lost], ((onTuner st 9).path 0).snapshot = some free501 ∧
      ((onTuner st 9).path 0).heldInput = some 0 ∧ ((onTuner st 9).input 0).state = st) ∧
    (let s := keyed .presenting;
      (s.path 0).snapshot = some paid506 ∧ (s.path 0).heldInput = some 0 ∧ (s.input 0).state = .locked ∧
      accessTest s (s.path 0) paid506 = some .notEntitled) ∧
    (let s := (onTuner .locked 9).setParental { quiet.parental with
        active := 1, profiles := quiet.parental.profiles.set 0 { defaultProfile with blocked := [501] } };
      (s.path 0).snapshot = some free501 ∧ (s.path 0).heldInput = some 0 ∧ (s.input 0).state = .locked ∧
      accessTest s (s.path 0) free501 = none ∧ (parentalVerdict s (s.path 0) free501).isSome = true) ∧
    (∀ k ∈ [Slot.mk none none, ⟨some ⟨0, 1⟩, none⟩],
      let t := (keyed .acquiring).setAccess { quiet.access with tiers := [⟨9, none, none⟩] };
      let s := t.setPath 0 { t.path 0 with slotA := k };
      (s.path 0).snapshot = some paid506 ∧ (s.path 0).heldInput = some 0 ∧ (s.input 0).state = .locked ∧
      accessTest s (s.path 0) paid506 = none ∧ parentalVerdict s (s.path 0) paid506 = none ∧
      (s.path 0).slotA = k ∧ (s.path 0).slotB.loaded = none) ∧
    ((busy.path 2).snapshot = some free505 ∧ (busy.path 2).heldInput = some 0 ∧
      (busy.input 0).state = .locked ∧ accessTest busy (busy.path 2) free505 = none) :=
  ⟨⟨waits 12, 0, free501, by decide +kernel⟩, by decide +kernel, by decide +kernel, by decide +kernel,
    by decide +kernel, by decide +kernel⟩

/-- View path 0 on service 810 with a boundary timer due. -/
def bounded : State :=
  let s := quiet.setInput 0 (locked 40 [0])
  s.setPath 0 { onInput sold810 0 none with
    state := .denied .noEvent, boundary := some ⟨8000000, 600000⟩, unlock := some ⟨810, none⟩ }

theorem witness_BoundaryTaken :
    (∃ (s : State) (p : PathNo) (v : Service) (b : Boundary), Settled s ∧ (s.path p).snapshot = some v ∧
      (s.path p).boundary = some b ∧ b.expiry ≤ s.localCount ∧ (s.path p).unlock ≠ none) ∧
    (∃ (s : State) (p : PathNo), ∀ b, (s.path p).boundary = some b → s.localCount < b.expiry) :=
  ⟨⟨bounded, 0, sold810, ⟨8000000, 600000⟩, settled (by decide +kernel), by decide +kernel,
      by decide +kernel, by decide +kernel, by decide +kernel⟩,
    ⟨bounded.setCount 599999, 0, of_all (by decide +kernel)⟩⟩

/-! ### Entitlements, credit and purchases -/

/-- A part at second 7,999,780, or without network time, with a READY card or none, and with tables. -/
def access (known card : Bool) (ts : List Tier) (ps : List PurchaseRecord) : State :=
  let s := quiet.setAccess { quiet.access with tiers := ts, purchases := ps }
  let s := if known then s else s.setTime State.reset.time
  if card then s else s.setCard State.reset.card

def bought72 : PurchaseRecord := ⟨810, 72, 8000000, 8001800, 400, 7999000, false, false, false, none⟩

/-- The current event of a path on service 810. -/
def on810 (c : Option CurrentEvent) : Path := { onInput sold810 0 none with currentEvent := c }

theorem unique_of_length_one {α : Type} {l : List α} {x : α} {P : α → Prop} (h : l = [x]) :
    ∀ q ∈ l, P q → q = x := by
  subst h
  intro q hq _
  exact List.mem_singleton.1 hq

theorem witness_AccessTests_AccessTest :
    free501.access = .free ∧ paid506.access = .tier 9 ∧ sold810.access = .event ∧
    (∀ r ∈ (access true true [⟨8, none, none⟩] []).access.tiers, r.tier ≠ 9) ∧
    (∀ e ∈ [none, some 7999780, some 7999781], ∀ known card : Bool,
      let s := access known card [⟨9, e, none⟩] []
      ∃ r, r ∈ s.access.tiers ∧ r.tier = 9 ∧ r.expiry = e ∧ (∀ q ∈ s.access.tiers, q.tier = 9 → q = r) ∧
        (s.time.state = .unset ↔ known = false) ∧ (s.time.state ≠ .unset → s.netSec = 7999780) ∧
        ((s.card.state = .absent ∨ s.card.state = .faulted) ↔ card = false)) ∧
    (∀ known card : Bool, ∀ ps ∈ [[], [bought72]], ∀ c ∈ [none, some (⟨72, 8000000, 8001800⟩ : CurrentEvent)],
      let s := access known card [] ps
      (on810 c).currentEvent = c ∧ (s.time.state = .unset ↔ known = false) ∧
      ((s.card.state = .absent ∨ s.card.state = .faulted) ↔ card = false) ∧
      ((∃ r ∈ s.access.purchases, r.service = 810 ∧ r.event = 72) ↔ ps = [bought72])) :=
  ⟨rfl, rfl, rfl, by decide +kernel, fun e he known card => ⟨⟨9, e, none⟩, by
      revert e known card; decide +kernel, rfl, rfl, unique_of_length_one (by revert e known card; decide +kernel),
      by revert e known card; decide +kernel⟩, by decide +kernel⟩

theorem witness_AccessTests_RequirementTest :
    paid506.access = .tier 9 ∧
    (∀ known card : Bool, ∀ ps ∈ [[], [bought72]], let s := access known card [] ps
      (s.time.state = .unset ↔ known = false) ∧
      ((s.card.state = .absent ∨ s.card.state = .faulted) ↔ card = false) ∧
      ((∃ r ∈ s.access.purchases, r.service = 810 ∧ r.event = 72) ↔ ps = [bought72])) := by
  decide +kernel

theorem witness_NothingGivenWithoutCard :
    (∃ (c : Instr) (s t : State), exec c s = .next t ∧ c ≠ .powerReset ∧
      (∀ k, c ≠ .cardDone k (.verdict true)) ∧ s.access.purchases ≠ []) :=
  ⟨.cardDone 0 (.verdict false), shop, _, rfl, by decide, (fun _ h => nomatch h), by decide +kernel⟩

/-- A PURCHASE of an event of service 810 has been taken, with the PIN 9 9 9 9. -/
def Buying (e : Nat) (s : State) : Prop :=
  ∃ a tag body rest, Taken s a .purchase tag body rest ∧
    fields [2, 2, 1, 1, 1, 1] body = some [810, e, 9, 9, 9, 9]

theorem buying (e : Nat) (s : State) (h : headRefusal .purchase .media
      (u16 810 ++ u16 e ++ u8 9 ++ u8 9 ++ u8 9 ++ u8 9)
      (asked .purchase .media (u16 810 ++ u16 e ++ u8 9 ++ u8 9 ++ u8 9 ++ u8 9) s) = none)
    (g : fields [2, 2, 1, 1, 1, 1] (u16 810 ++ u16 e ++ u8 9 ++ u8 9 ++ u8 9 ++ u8 9) =
      some [810, e, 9, 9, 9, 9]) :
    Buying e (asked .purchase .media (u16 810 ++ u16 e ++ u8 9 ++ u8 9 ++ u8 9 ++ u8 9) s) :=
  ⟨.media, 5, _, [], taken .purchase .media _ s h, g⟩

def fullList (n : Nat) : List PurchaseRecord :=
  (List.range n).map fun i => ⟨1, i, 7000000, 7000001, 0, 7000000, false, false, false, none⟩

/-- The head of the queue asks for event 72 of service 810 in `buyer`. -/
def buyer (s : State) : State :=
  asked .purchase .media (u16 810 ++ u16 72 ++ u8 9 ++ u8 9 ++ u8 9 ++ u8 9) s

/-- The events an active part, at second 7,999,780, may be asked for. -/
def stock (price stop : Nat) (ps : List PurchaseRecord) : State :=
  (quiet.setGuide ⟨[⟨810, 72, 7999000, stop - 7999000, none, price, 0⟩], 660000⟩).setAccess
    { quiet.access with purchases := ps }

theorem witness_PurchaseTaken :
    (quiet.parental.active = 0) ∧
    (∀ flag : Bool, let s := pins.setParental { pins.parental with
        profiles := pins.parental.profiles.set 0 { defaultProfile with purchasePin := flag } };
      s.parental.active ≠ 0 ∧ s.parental.activeProfile.purchasePin = flag) ∧
    (∃ s, Buying 72 s ∧ s.power.state ≠ .active) ∧
    (∃ s, Buying 72 s ∧ s.power.state = .active ∧ s.time.state = .unset) ∧
    (∃ s ans u st b, Buying 72 s ∧ s.power.state = .active ∧ s.time.state ≠ .unset ∧
      purchaseCheck ⟨9, 9, 9, 9⟩ s = (ans, u) ∧ PinAnswer.refusal ans = some (st, b)) ∧
    (∃ s u, Buying 72 s ∧ s.power.state = .active ∧ s.time.state ≠ .unset ∧
      purchaseCheck ⟨9, 9, 9, 9⟩ s = (.passed, u) ∧ forSale s 810 72 = none) ∧
    (∃ s u e, Buying 72 s ∧ s.power.state = .active ∧ s.time.state ≠ .unset ∧
      purchaseCheck ⟨9, 9, 9, 9⟩ s = (.passed, u) ∧ forSale s 810 72 = some e ∧ e.stop = s.netSec) ∧
    (∃ s u e r, Buying 72 s ∧ s.power.state = .active ∧ s.time.state ≠ .unset ∧
      purchaseCheck ⟨9, 9, 9, 9⟩ s = (.passed, u) ∧ forSale s 810 72 = some e ∧ s.netSec + 1 = e.stop ∧
      s.access.bought 810 72 = some r) ∧
    (∃ s u e, Buying 72 s ∧ s.power.state = .active ∧ s.time.state ≠ .unset ∧
      purchaseCheck ⟨9, 9, 9, 9⟩ s = (.passed, u) ∧ forSale s 810 72 = some e ∧ s.netSec < e.stop ∧
      s.access.bought 810 72 = none ∧ s.access.purchases.length = 64) ∧
    (∃ s u e, Buying 72 s ∧ s.power.state = .active ∧ s.time.state ≠ .unset ∧
      purchaseCheck ⟨9, 9, 9, 9⟩ s = (.passed, u) ∧ forSale s 810 72 = some e ∧ s.netSec < e.stop ∧
      s.access.bought 810 72 = none ∧ s.access.purchases.length = 63 ∧ s.access.balance + 1 = e.price) ∧
    (∃ s u e, Buying 72 s ∧ s.power.state = .active ∧ s.time.state ≠ .unset ∧
      purchaseCheck ⟨9, 9, 9, 9⟩ s = (.passed, u) ∧ forSale s 810 72 = some e ∧ s.netSec < e.stop ∧
      s.access.bought 810 72 = none ∧ s.access.purchases.length = 63 ∧ e.price = s.access.balance ∧
      NoStartDue s) := by
  refine ⟨by decide +kernel, by decide +kernel,
    ⟨_, buying 72 (quiet.setPower ⟨.standby, none⟩) (by decide +kernel) (by decide), by decide +kernel⟩,
    ⟨_, buying 72 State.reset (by decide +kernel) (by decide), by decide +kernel, by decide +kernel⟩,
    ⟨_, _, _, .pinWrong, u8 2, buying 72 pins (by decide +kernel) (by decide), by decide +kernel, by decide +kernel,
      rfl, by decide +kernel⟩,
    ⟨_, buyer (quiet.setGuide ⟨[], 660000⟩), buying 72 (quiet.setGuide ⟨[], 660000⟩) (by decide +kernel)
      (by decide), by decide +kernel⟩,
    ⟨_, buyer (stock 5 7999780 []), ⟨810, 72, 7999000, 780, none, 5, 0⟩,
      buying 72 (stock 5 7999780 []) (by decide +kernel) (by decide), by decide +kernel⟩,
    ⟨_, buyer (stock 5 7999781 [bought72]), ⟨810, 72, 7999000, 781, none, 5, 0⟩, bought72,
      buying 72 (stock 5 7999781 [bought72]) (by decide +kernel) (by decide), by decide +kernel⟩,
    ⟨_, buyer (stock 5 7999781 (fullList 64)), ⟨810, 72, 7999000, 781, none, 5, 0⟩,
      buying 72 (stock 5 7999781 (fullList 64)) (by decide +kernel) (by decide), by decide +kernel⟩,
    ⟨_, buyer (stock 1001 7999781 (fullList 63)), ⟨810, 72, 7999000, 781, none, 1001, 0⟩,
      buying 72 (stock 1001 7999781 (fullList 63)) (by decide +kernel) (by decide), by decide +kernel⟩,
    ⟨_, buyer (stock 1000 7999781 (fullList 63)), ⟨810, 72, 7999000, 781, none, 1000, 0⟩,
      buying 72 (stock 1000 7999781 (fullList 63)) (by decide +kernel) (by decide), ?_⟩⟩
  unfold NoStartDue
  decide +kernel

theorem witness_AccessExpiries :
    (∃ (s : State) (n : Nat) (r : Tier), s.access.tier n = some r ∧ s.reached r.timer = true) ∧
    (∃ (s : State) (n : Nat) (r : Tier), s.access.tier n = some r ∧ s.reached r.timer = false) ∧
    (∃ (s : State) (n : Nat), s.access.tier n = none) ∧
    (∃ (s : State) (r : PurchaseRecord), s.access.bought 810 72 = some r ∧ s.reached r.timer = false) ∧
    (∀ marks ∈ [(false, false), (true, false), (false, true)], ∃ (s : State) (r : PurchaseRecord),
      s.access.bought 810 72 = some r ∧ s.reached r.timer = true ∧ NoStartDue s ∧ s.timeKnown = true ∧
      r.stop ≤ s.netSec ∧ (∀ q ∈ s.access.purchases, q.service = 810 → q.event = 72 → q = r) ∧
      (r.reported, r.granted) = marks) ∧
    (∃ s : State, s.access.bought 810 72 = none) := by
  refine ⟨⟨access true true [⟨9, some 7999780, some 600000⟩] [], 9, ⟨9, some 7999780, some 600000⟩,
      by decide +kernel⟩,
    ⟨access true true [⟨9, some 7999781, some 600001⟩] [], 9, ⟨9, some 7999781, some 600001⟩,
      by decide +kernel⟩,
    ⟨quiet, 9, by decide +kernel⟩, ⟨access true true [] [bought72], bought72, by decide +kernel⟩,
    fun m hm => ⟨access true true [] [⟨810, 72, 7990000, 7999780, 400, 7990000, m.2, m.1, false, some 600000⟩],
      ⟨810, 72, 7990000, 7999780, 400, 7990000, m.2, m.1, false, some 600000⟩, ?_⟩,
    ⟨quiet, by decide +kernel⟩⟩
  unfold NoStartDue
  revert m
  decide +kernel

/-- `quiet` with a card in a state and transactions at the Card Link. -/
def carded (st : CardState) (w : Nat) : State :=
  quiet.setCard { quiet.card with state := st, waiting := List.replicate w (.unwrap 0 .a 1 (.tier 9) []) }

/-- What is wrong with a grant message, and the grant when nothing is. -/
def judged (m : List Byte) : Option Nat × Option Grant :=
  match grantOf m with
  | .error f => (some f, none)
  | .ok g => (none, some g)

theorem ok_grant {m : List Byte} {g : Grant} (h : judged m = (none, some g)) : grantOf m = .ok g := by
  unfold judged at h
  split at h <;> simp_all

theorem error_grant {m : List Byte} {f : Nat} (h : judged m = (some f, none)) : grantOf m = .error f := by
  unfold judged at h
  split at h <;> simp_all

theorem witness_GrantSubmitted :
    (∃ s a tag body rest f, Taken s a .grant tag body rest ∧ grantOf body = .error f) ∧
    (∀ x ∈ [(CardState.absent, 0), (.faulted, 0), (.ready, 0), (.idleClock, 0), (.resetting, 7),
        (.waking, 8), (.resetting, 8)],
      ∃ s a tag body rest g, Taken s a .grant tag body rest ∧ grantOf body = .ok g ∧ s.card.state = x.1 ∧
        s.card.waiting.length = x.2) ∧
    freeTag (carded .ready 0).card = some 0 :=
  ⟨⟨_, _, _, _, _, 1, taken .grant .network (grantBody 9 (u32 500)) quiet (by decide +kernel), error_grant (by decide +kernel)⟩,
    fun x hx => ⟨asked .grant .network (grantBody 3 (u32 500)) (carded x.1 x.2), .network, 5, _, [],
      .creditAdd 500, taken .grant .network (grantBody 3 (u32 500)) (carded x.1 x.2)
        (by revert x; decide +kernel), ok_grant (by decide +kernel), rfl, List.length_replicate⟩, by decide +kernel⟩

/-- A GRANT of a message waits for its VERIFY, which has the tag 0. -/
def verifying (m : List Byte) (s : State) : State := took .grant .network m s

/-- For each kind of grant, a DONE of its VERIFY. -/
theorem witness_GrantsApplied :
    ∀ x ∈ [(grantBody 1 (u8 255 ++ u8 1 ++ u32 0), Grant.tierAdd 255 (some 0)),
      (grantBody 1 (u8 9 ++ u8 0 ++ u32 0), .tierAdd 9 none), (grantBody 2 (u8 9), .tierRemove 9),
      (grantBody 3 (u32 1000000), .creditAdd 1000000),
      (grantBody 4 (u16 810 ++ u16 72 ++ u32 8000000 ++ u32 8001800), .eventGrant 810 72 8000000 8001800),
      (grantBody 5 (u8 1 ++ u8 2 ++ u8 3 ++ u8 9), .pinReset ⟨1, 2, 3, 9⟩)],
    ∃ (s : State) (k n : Nat) (e : Entry) (l : Agent) (m : List Byte) (r : Request) (rest : List Request),
      (s.card.state = .ready ∨ s.card.state = .waking) ∧ s.card.entry k = some e ∧
      e.tx = .verify l n m true ∧ grantOf m = .ok x.2 ∧ (s.link l).queue = r :: rest ∧ NoStartDue s := by
  intro x hx
  refine ⟨verifying x.1 quiet, 0, 5, ⟨0, .verify .network 5 x.1 true, 600000, some 600400, none, 0, false⟩,
    .network, x.1, ⟨5, Req.grant.code, x.1⟩, [], ?_, ?_, rfl, ?_, ?_, ?_⟩
  · revert x; decide +kernel
  · revert x; decide +kernel
  · exact ok_grant (by revert x; decide +kernel)
  · revert x; decide +kernel
  · unfold NoStartDue; revert x; decide +kernel

theorem witness_ReportBatch :
    (∃ s a tag rest, Taken s a .reportFetch tag [] rest ∧ s.access.batchOpen = true) ∧
    (∃ s a tag rest, Taken s a .reportFetch tag [] rest ∧ s.access.batchOpen = false ∧
      ∀ r ∈ s.access.purchases, r.reported = true ∨ r.granted = true) ∧
    (∃ s a tag rest, Taken s a .reportFetch tag [] rest ∧ s.access.batchOpen = false ∧
      ∃ r ∈ s.access.purchases, r.reported = false ∧ r.granted = false) ∧
    (∀ r ∈ fullList 9, r.inBatch = false) ∧
    (∃ s a tag body rest n, Taken s a .reportClear tag body rest ∧ fields [1] body = some [n] ∧
      s.access.batchOpen = false) ∧
    (∃ s a tag body rest n, Taken s a .reportClear tag body rest ∧ fields [1] body = some [n] ∧
      s.access.batchOpen = true ∧ n ≠ s.access.batchNumber) ∧
    (∃ s a tag body rest n, Taken s a .reportClear tag body rest ∧ fields [1] body = some [n] ∧
      s.access.batchOpen = true ∧ n = s.access.batchNumber ∧ NoStartDue s ∧
      s.access.purchases.Pairwise (fun r q => r.service ≠ q.service ∨ r.event ≠ q.event) ∧
      ∃ r ∈ s.access.purchases, r.inBatch = true ∧ r.stop ≤ s.netSec) := by
  refine ⟨⟨_, _, _, _, taken .reportFetch .network [] (took .reportFetch .network [] shop) (by decide +kernel),
      by decide +kernel⟩,
    ⟨_, _, _, _, taken .reportFetch .network [] quiet (by decide +kernel), by decide +kernel, by decide +kernel⟩,
    ⟨_, _, _, _, taken .reportFetch .network [] shop (by decide +kernel), by decide +kernel, by decide +kernel⟩,
    by decide +kernel,
    ⟨_, _, _, _, _, 7, taken .reportClear .network (u8 7) shop (by decide +kernel), by decide, by decide +kernel⟩,
    ⟨_, _, _, _, _, 8, taken .reportClear .network (u8 8) (took .reportFetch .network [] shop)
      (by decide +kernel), by decide, by decide +kernel, by decide +kernel⟩,
    ⟨_, _, _, _, _, 7, taken .reportClear .network (u8 7) (took .reportFetch .network [] shop)
      (by decide +kernel), by decide, by decide +kernel, by decide +kernel, ?_, by decide +kernel,
      by decide +kernel⟩⟩
  unfold NoStartDue
  decide +kernel

/-! ### The card and the key slots -/

theorem taken_asked_noneDue {q : Req} {a : Agent} {body : List Byte} {s : State}
    (h : (s.card.waiting ++ s.card.outstanding.map (·.tx)).all (fun tx => match tx with
      | .verify l _ _ true => decide (l ≠ a)
      | _ => true) = true) : NoneDue (asked q a body s) a := by
  intro tx htx l tag m e
  subst e
  have hm : Transaction.verify l tag m true ∈ s.card.waiting ++ s.card.outstanding.map (·.tx) := by
    rcases htx with hw | ⟨x, hx, hxe⟩
    · exact List.mem_append_left _ (by cases a <;> exact hw)
    · exact List.mem_append_right _ (List.mem_map.2 ⟨x, by cases a <;> exact hx, hxe⟩)
  have := List.all_eq_true.1 h _ hm
  simpa using this

/-- A card in a state whose expiries stand at 600,000. -/
def cardIn (st : CardState) : State :=
  quiet.setCard { quiet.card with
    state := st
    resetExpiry := if st = .resetting then some 600000 else none
    wakeExpiry := if st = .waking then some 600000 else none }

theorem witness_CardStates :
    (∀ st ∈ [CardState.absent, .resetting, .ready, .idleClock, .waking, .faulted],
      (cardIn st).card.state = st ∧ (cardIn st).power.state = .active) ∧
    ((cardIn .resetting).reached (cardIn .resetting).card.resetExpiry = true) ∧
    ((cardIn .waking).reached (cardIn .waking).card.wakeExpiry = true) ∧
    (let s := (cardIn .resetting).setCount 599999;
      s.card.state = .resetting ∧ s.reached s.card.resetExpiry = false) ∧
    (let s := (cardIn .waking).setCount 599999;
      s.card.state = .waking ∧ s.reached s.card.wakeExpiry = false) ∧
    (∃ s a tag rest, Taken s a .cardReset tag [] rest ∧ s.card.state = .absent) ∧
    (∀ st ∈ [CardState.resetting, .ready, .idleClock, .waking, .faulted], ∃ s a tag rest,
      Taken s a .cardReset tag [] rest ∧ s.card.state = st ∧ s.card.state ≠ .absent ∧ NoneDue s a) := by
  refine ⟨by decide +kernel, by decide +kernel, by decide +kernel, by decide +kernel, by decide +kernel,
    ⟨_, _, _, _, taken .cardReset .media [] (cardIn .absent) (by decide +kernel), by decide +kernel⟩,
    fun st hst => ⟨asked .cardReset .media [] (cardIn st), _, _, _,
      taken .cardReset .media [] (cardIn st) (by revert st; decide +kernel), rfl, by revert st; decide +kernel,
      taken_asked_noneDue (by revert st; decide +kernel)⟩⟩

/-- One VERIFY outstanding, with tag 0, whose GRANT waits. -/
def waitingGrant : State := verifying (grantBody 3 (u32 500)) quiet

def grantEntry (busyCount : Nat) : Entry :=
  ⟨0, .verify .network 5 (grantBody 3 (u32 500)) true, 600000, some 600400, none, busyCount, false⟩

def grantRequest : Request := ⟨5, Req.grant.code, grantBody 3 (u32 500)⟩

theorem witness_CardStates_FaultCleared :
    (∃ s a tag rest, Taken s a .faultClear tag [] rest) ∧
    (∃ (s : State) (e : Entry) (l : Agent) (n : Nat) (m : List Byte) (r : Request) (rest : List Request),
      s.card.state ≠ .absent ∧ s.card.outstanding = [e] ∧ s.card.waiting = [] ∧
      e.tx = .verify l n m true ∧ (s.link l).queue = r :: rest) :=
  ⟨⟨_, _, _, _, taken .faultClear .media [] (after (.transactionTimeout 0) failing) (by decide +kernel)⟩,
    ⟨waitingGrant, grantEntry 0, .network, 5, _, grantRequest, [], by decide +kernel, by decide +kernel,
      by decide +kernel, rfl, by decide +kernel⟩⟩

theorem witness_CardAnswers_UnexpectedReplies :
    (∀ st ∈ [CardState.absent, .resetting, .idleClock, .faulted],
      (cardIn st).card.state ≠ .ready ∧ (cardIn st).card.state ≠ .waking) ∧
    (let s := after (.transactionTimeout 0) failing;
      Instr.cardBusyReply 0 ≠ .cardReplyUnknownKind 0 ∧ s.card.entry 0 = none ∧
      ∃ t : Fin 4, t.val = 0 ∧ s.card.resting.get t ≠ none) ∧
    (∀ st ∈ [CardState.ready, .waking], ∀ k ∈ [3, 4, 255],
      ((cardIn st).card.state = .ready ∨ (cardIn st).card.state = .waking) ∧
      (cardIn st).card.entry k = none ∧ ∀ t : Fin 4, t.val = k → (cardIn st).card.resting.get t = none) ∧
    ((waitingGrant.card.state = .ready ∨ waitingGrant.card.state = .waking) ∧
      ∃ e, waitingGrant.card.entry 0 = some e ∧ doneOutcome e.tx (.key 1) = none) :=
  ⟨by decide +kernel, by decide +kernel, by decide +kernel, by decide +kernel, grantEntry 0,
    by decide +kernel, by decide +kernel⟩

/-- The VERIFY has been answered BUSY a number of times and is to be sent again. -/
def busyGrant (n : Nat) (failures : Nat) : State :=
  waitingGrant.setCard { waitingGrant.card with
    failures := failures
    outstanding := [{ grantEntry n with timeout := some 600000, resend := some 600000 }] }

theorem witness_CardAnswers :
    (∃ (s : State) (k : Nat) (e : Entry), (s.card.state = .ready ∨ s.card.state = .waking) ∧
      s.card.entry k = some e ∧ e.busy + 1 = 15) ∧
    (∃ (s : State) (k : Nat) (e : Entry), s.card.entry k = some e ∧ s.card.state = .ready ∧
      s.reached e.resend = true) ∧
    (∃ (s : State) (k : Nat) (e : Entry), s.card.entry k = some e ∧ s.card.state ≠ .ready) ∧
    (∃ (s : State) (k : Nat) (e : Entry), s.card.entry k = some e ∧ s.reached e.resend = false ∧
      s.reached e.timeout = false) ∧
    (∃ (s : State) (k : Nat), s.card.entry k = none) ∧
    (∀ f ∈ [0, 2], ∃ (s : State) (e : Entry) (l : Agent) (n : Nat) (m : List Byte) (r : Request)
        (rest : List Request), e.busy = 15 ∧ (s.card.state = .ready ∨ s.card.state = .waking) ∧
      s.reached e.timeout = true ∧ s.card.failures = f ∧
      s.card.outstanding = [e] ∧ s.card.waiting = [] ∧ e.tx = .verify l n m true ∧
      (s.link l).queue = r :: rest ∧ s.power.state = .active) ∧
    (∃ (s : State) (e : Entry) (l : Agent) (n : Nat) (m : List Byte) (r : Request) (rest : List Request),
      (s.card.state = .ready ∨ s.card.state = .waking) ∧ s.card.outstanding = [e] ∧ s.card.waiting = [] ∧
      e.tx = .verify l n m true ∧ (s.link l).queue = r :: rest ∧ NoStartDue s) ∧
    (∃ (s : State) (k : Fin 4), s.reached (s.card.resting.get k) = true) ∧
    (∃ (s : State) (k : Fin 4), s.card.resting.get k ≠ none ∧ s.reached (s.card.resting.get k) = false) := by
  refine ⟨⟨busyGrant 14 0, 0, _, by decide +kernel, rfl, rfl⟩,
    ⟨busyGrant 14 0, 0, _, rfl, by decide +kernel, by decide +kernel⟩,
    ⟨(busyGrant 14 0).setCard { (busyGrant 14 0).card with state := .waking }, 0, _, rfl, by decide +kernel⟩,
    ⟨(busyGrant 14 0).setCount 599999, 0, _, rfl, by decide +kernel, by decide +kernel⟩,
    ⟨quiet, 0, by decide +kernel⟩,
    fun f hf => ⟨busyGrant 15 f, { grantEntry 15 with timeout := some 600000, resend := some 600000 }, .network, 5, _,
      grantRequest, [], rfl, by revert f; decide +kernel, by revert f; decide +kernel, rfl, rfl,
      by revert f; decide +kernel, rfl, by revert f; decide +kernel, by revert f; decide +kernel⟩,
    ⟨waitingGrant, grantEntry 0, .network, 5, _, grantRequest, [], by decide +kernel, by decide +kernel,
      by decide +kernel, rfl, by decide +kernel, ?_⟩,
    ⟨(after (.transactionTimeout 0) failing).setCount 10800, 0, by decide +kernel⟩,
    ⟨(after (.transactionTimeout 0) failing).setCount 10799, 0, by decide +kernel, by decide +kernel⟩⟩
  unfold NoStartDue
  decide +kernel

theorem witness_DispatchAndClock :
    (∃ (s : State) (tx : Transaction) (more : List Transaction) (k : Fin 4),
      s.card.state = .ready ∧ s.card.waiting = tx :: more ∧ freeTag s.card = some k ∧ s.gatesDue = [] ∧
      s.claimQueue = [] ∧ NoStartDue s ∧ s.power.state ≠ .quiescing) ∧
    (∀ q ∈ [PowerState.standby, .service], ∃ s : State, s.power.state = q ∧ s.card.state = .ready ∧
      s.card.outstanding = [] ∧ s.card.waiting = [] ∧
      (∀ p : PathNo, 2 ≤ p.val → (s.path p).snapshot = none) ∧ NoStartDue s) ∧
    Settled busy := by
  refine ⟨⟨quiet.setCard { failing.card with waiting := [.unwrap 0 .a 1 (.tier 9) []] }, _, [], 3,
      by decide +kernel, rfl, by decide +kernel, by decide +kernel, by decide +kernel, ?_, by decide +kernel⟩,
    fun q hq => ⟨quiet.setPower ⟨q, none⟩, rfl, rfl, rfl, rfl,
      by revert q; decide +kernel, ?_⟩, busy_settled⟩
  · unfold NoStartDue; decide +kernel
  · unfold NoStartDue; revert q; decide +kernel

/-- The key message of version 3 for phase A, requiring tier 9. -/
def keyPayload : List Byte := u8 3 ++ u8 1 ++ u16 9 ++ List.replicate 16 0

def keyMessage : KeyMessage := ⟨.a, 3, .tier 9, List.replicate 16 0⟩

/-- View path 0 on service 506 in a state, with a slot of phase A and tier records. -/
def keying (st : PathState) (k : Slot) (ts : List Tier) : State :=
  let s := (onTuner .locked 9).setAccess { quiet.access with tiers := ts }
  s.setPath 0 { onInput paid506 0 none with state := st, slotA := k }

theorem witness_KeyMessages :
    ((255 : Nat) < 256 ∧ (2 : Nat) < 256 ∧ (65535 : Nat) < 65536 ∧ (List.replicate 16 (0 : Byte)).length = 16) ∧
    ((List.replicate 19 (0 : Byte)).length ≠ 20 ∧ (List.replicate 21 (0 : Byte)).length ≠ 20) ∧
    (∀ st ∈ [PathState.acquiring, .presenting, .denied .notEntitled],
      ∀ k ∈ [Slot.empty, ⟨some ⟨3, 1⟩, none⟩, ⟨none, some 3⟩, ⟨some ⟨2, 1⟩, some 4⟩],
      ∀ ts ∈ [[], [(⟨9, none, none⟩ : Tier)]],
        let s := keying st k ts
        Settled s ∧ (s.input 0).state = .locked ∧ (s.input 0).holders = [0] ∧
        (s.path 0).snapshot = some paid506 ∧ paid506.keyTag = some 777 ∧ 777 ≠ 8001 ∧
        (∀ c ∈ paid506.components, c.tag ≠ 777) ∧ ((s.path 0).slot .a) = k ∧
        (takesKeys 0 (s.path 0).state = false ↔ st = .denied .notEntitled) ∧
        (requirementTest s paid506.id (.tier 9) = none ↔ ts ≠ []) ∧ s.card.waiting.length < 8 ∧
        s.card.state ≠ .idleClock) ∧
    keyMessageOf keyPayload = some keyMessage ∧ keyMessageOf [] = none :=
  ⟨by decide, by decide, fun st hst k hk ts hts => ⟨settled (by revert st k ts; decide +kernel),
      by revert st k ts; decide +kernel⟩, by decide +kernel, by decide +kernel⟩

/-- A record path loads a key of version 3, phase A. -/
def unwrapping : State :=
  let s := (quiet.setInput 0 (locked 12 [2])).setAccess { quiet.access with tiers := [⟨9, none, none⟩] }
  let s := s.setPath 2 { onInput paid506 0 none with state := .acquiring, slotA := ⟨none, some 3⟩ }
  s.setCard { s.card with outstanding :=
    [⟨0, .unwrap 2 .a 3 (.tier 9) [], 600000, some 600400, none, 0, false⟩] }

theorem witness_KeyMessages_UnwrapEnds :
    ((unwrapping.path 2).slot .a).pending = some 3 ∧ ((unwrapping.path 2).slot .a).pending ≠ some 4 ∧
    (∃ (s : State) (n : Nat) (e : Entry) (p : PathNo) (ph : Phase) (ver : Nat) (q : Requirement)
        (w : List Byte), (s.card.state = .ready ∨ s.card.state = .waking) ∧ s.card.entry n = some e ∧
      e.tx = .unwrap p ph ver q w ∧ e.stale = false ∧ s.power.state = .active ∧ NoStartDue s ∧
      s.claimQueue = []) := by
  refine ⟨by decide +kernel, by decide +kernel, unwrapping, 0,
    ⟨0, .unwrap 2 .a 3 (.tier 9) [], 600000, some 600400, none, 0, false⟩, 2, .a, 3, .tier 9, [],
    by decide +kernel, by decide +kernel, rfl, rfl, by decide +kernel, ?_, by decide +kernel⟩
  unfold NoStartDue
  decide +kernel

/-! ### Parental limits -/

/-- `quiet` with a lockout and wrong PINs counted; its master PIN is 0 0 0 0. -/
def pinned (lockout : Option Count) (n : Nat) : State :=
  quiet.setParental { quiet.parental with attempts := n, lockout := lockout }

theorem witness_ProfileSelected_PinChecked :
    (∃ (s : State) (e : Count), s.parental.lockout = some e) ∧
    (∀ n ∈ [0, 1, 2], (pinned none n).parental.lockout = none ∧ (pinned none n).parental.attempts = n ∧
      pinZero ∈ [(pinned none n).parental.masterPin] ∧
      (⟨9, 9, 9, 9⟩ : Pin) ∉ [(pinned none n).parental.masterPin]) ∧
    (∀ n ∈ [0, 1, 2], (pinCheck ⟨9, 9, 9, 9⟩ [pinZero] (pinned none n)).2.parental ≠ (pinned none n).parental ∧
      (pinned none n).power.state ≠ .quiescing) :=
  ⟨⟨pinned (some 600001) 0, 600001, rfl⟩, by decide +kernel, by decide +kernel⟩

/-- A part under profile 1. -/
def under (p : Profile) (known : Bool) (used : Nat) : State :=
  let s := if known then quiet else quiet.setTime State.reset.time
  s.setParental { s.parental with
    active := 1, profiles := s.parental.profiles.set 0 p, meters := s.parental.meters.set 1 ⟨used, 0, 5⟩ }

/-- Each line of the verdict, at minute 849 of the day, with and without an unlock. -/
theorem witness_ParentalVerdict :
    (let s := under { defaultProfile with blocked := [501] } true 0;
      501 ∈ s.parental.activeProfile.blocked ∧ (onInput free501 0 none).unlock = none) ∧
    (∃ u : Unlock, ({ onInput free501 0 none with unlock := some ⟨501, none⟩ } : Path).unlock = some u ∧
      u.service = free501.id ∧ u.event = none) ∧
    (let s := under { defaultProfile with ceiling := 3 } true 0;
      501 ∉ s.parental.activeProfile.blocked ∧
      s.parental.activeProfile.ceiling < ({ free501 with rating := 4 } : Service).rating) ∧
    (let s := under { defaultProfile with winStart := 1, winStop := 2 } false 0;
      s.parental.activeProfile.winStart ≠ s.parental.activeProfile.winStop ∧ s.time.state = .unset) ∧
    (∀ w ∈ [(850, 851), (848, 849), (850, 849)],
      let s := under { defaultProfile with winStart := w.1, winStop := w.2 } true 0;
      let p := s.parental.activeProfile
      s.time.state ≠ .unset ∧ ((s.netSec : Int) + 60 * s.time.zone) % 86400 / 60 = 849 ∧
      p.winStart ≠ p.winStop ∧ ¬ ((p.winStart < p.winStop ∧ (p.winStart : Int) ≤ 849 ∧ 849 < p.winStop) ∨
        (p.winStop < p.winStart ∧ ((p.winStart : Int) ≤ 849 ∨ 849 < p.winStop)))) ∧
    (∀ w ∈ [(849, 850), (849, 848), (1000, 850)],
      let p := (under { defaultProfile with winStart := w.1, winStop := w.2 } true 0).parental.activeProfile
      ((p.winStart < p.winStop ∧ (p.winStart : Int) ≤ 849 ∧ 849 < p.winStop) ∨
        (p.winStop < p.winStart ∧ ((p.winStart : Int) ≤ 849 ∨ 849 < p.winStop)))) ∧
    (let s := under { defaultProfile with allowance := 1434 } true 1439;
      let sum := s.parental.activeProfile.allowance + s.parental.activeMeter.extension
      sum = 1439 ∧ sum ≤ s.parental.activeMeter.used) ∧
    (let s := under { defaultProfile with allowance := 1434 } true 1438;
      s.parental.activeMeter.used < s.parental.activeProfile.allowance + s.parental.activeMeter.extension) := by
  decide +kernel

def wrong : Pin := ⟨9, 9, 9, 9⟩

/-- A PIN right (0) or wrong (9), with the start flag and without; and a run of the meter. -/
theorem witness_ProfileSelected :
    (∀ n ∈ [(0 : ProfileNo), 4], ∀ d ∈ [0, 9], ∀ start : Bool, ∃ s a tag body rest,
      Taken s a .profileSelect tag body rest ∧
      fields [1, 1, 1, 1, 1, 1] body = some [n.val, d, d, d, d, if start then 1 else 0] ∧
      ((pinCheck ⟨d, d, d, d⟩ (if start then [s.parental.masterPin]
        else [(s.parental.profile n).pin, s.parental.masterPin]) s).1 = .passed ↔ d = 0) ∧
      ((pinCheck ⟨d, d, d, d⟩ (if start then [s.parental.masterPin]
        else [(s.parental.profile n).pin, s.parental.masterPin]) s).1.refusal.isSome = true ↔ d = 9) ∧
      s.power.state = .active) ∧
    (∃ s a tag body rest l, Taken s a .profileSelect tag body rest ∧
      fields [1, 1, 1, 1, 1, 1] body = some [2, 0, 0, 0, 0, 0] ∧
      (pinCheck pinZero [(s.parental.profile 2).pin, s.parental.masterPin] s).1 = .passed ∧
      s.parental.run = some l ∧ 2 ≠ s.parental.active ∧ s.parental.activeMeter.used < 1440 ∧
      s.parental.activeMeter.partialMs + (s.localCount - l) = 59999) :=
  ⟨fun n hn d hd start => ⟨_, _, _, _, _,
      taken .profileSelect .media (u8 n.val ++ u8 d ++ u8 d ++ u8 d ++ u8 d ++ u8 (if start then 1 else 0)) quiet
        (by revert n d start; decide +kernel), by revert n d start; decide +kernel,
      by revert n d start; decide +kernel, by revert n d start; decide +kernel, by revert n d start; decide +kernel⟩,
    ⟨_, _, _, _, _, 3000000, taken .profileSelect .media (u8 2 ++ u32 0 ++ u8 0) (pins.setCount 3059999)
      (by decide +kernel), by decide +kernel, by decide +kernel, by decide +kernel, by decide +kernel,
      by decide +kernel, by decide +kernel⟩⟩

/-- The body of a PROFILE WRITE of profile 4 with an allowance and a window. -/
def writeBody (allowance start stop d : Nat) : List Byte :=
  u8 4 ++ u8 7 ++ u8 0 ++ u8 0 ++ u8 0 ++ u16 allowance ++ u16 start ++ u16 stop ++ u32 0 ++
    u8 d ++ u8 d ++ u8 d ++ u8 d

theorem witness_ParentalRequests :
    (∃ s a tag body rest, Taken s a .profileWrite tag body rest ∧ profileWriteOf body = none) ∧
    (∀ x ∈ [(1440, 1439, 1439), (1441, 1440, 1440)], ∀ d ∈ [0, 9], ∃ s a tag body rest w,
      Taken s a .profileWrite tag body rest ∧ profileWriteOf body = some w ∧
      (w.profile.allowance, w.profile.winStart, w.profile.winStop) = x ∧
      ((pinCheck w.master [s.parental.masterPin] s).1 = .passed ↔ d = 0) ∧
      ((pinCheck w.master [s.parental.masterPin] s).1.refusal.isSome = true ↔ d = 9)) ∧
    (∃ s a tag body rest, Taken s a .unlock tag body rest ∧
      fields [1, 1, 1, 1, 1] body = some [0, 9, 9, 9, 9] ∧ s.power.state ≠ .active) ∧
    (∃ s a tag body rest, Taken s a .unlock tag body rest ∧
      fields [1, 1, 1, 1, 1] body = some [1, 9, 9, 9, 9] ∧ s.power.state = .active ∧
      (s.path 1).snapshot = none) ∧
    (∀ d ∈ [0, 9], ∃ s a tag body rest v, Taken s a .unlock tag body rest ∧
      fields [1, 1, 1, 1, 1] body = some [0, d, d, d, d] ∧ s.power.state = .active ∧
      (s.path 0).snapshot = some v ∧ NoStartDue s ∧
      ((pinCheck ⟨d, d, d, d⟩ [s.parental.masterPin] s).1 = .passed ↔ d = 0) ∧
      ((pinCheck ⟨d, d, d, d⟩ [s.parental.masterPin] s).1.refusal.isSome = true ↔ d = 9)) ∧
    (∀ n ∈ [0, 1, 1440, 1441], ∀ d ∈ [0, 9], ∀ q ∈ [PowerState.active, .standby], ∃ s a tag body rest,
      Taken s a .extend tag body rest ∧ fields [2, 1, 1, 1, 1] body = some [n, d, d, d, d] ∧
      s.power.state = q ∧
      ((pinCheck ⟨d, d, d, d⟩ [s.parental.masterPin] s).1 = .passed ↔ d = 0) ∧
      ((pinCheck ⟨d, d, d, d⟩ [s.parental.masterPin] s).1.refusal.isSome = true ↔ d = 9)) := by
  refine ⟨⟨_, _, _, _, _, taken .profileWrite .media [] quiet (by decide +kernel), by decide +kernel⟩,
    fun x hx d hd => ⟨_, _, _, _, _,
      ⟨3, ⟨7, [], false, false, x.1, x.2.1, x.2.2, pinZero⟩, ⟨d, d, d, d⟩⟩,
      taken .profileWrite .media (writeBody x.1 x.2.1 x.2.2 d) quiet (by revert x d; decide +kernel),
      by revert x d; decide +kernel, by revert x d; decide +kernel, by revert x d; decide +kernel,
      by revert x d; decide +kernel⟩,
    ⟨_, _, _, _, _, taken .unlock .media (u8 0 ++ u8 9 ++ u8 9 ++ u8 9 ++ u8 9)
      (quiet.setPower ⟨.standby, none⟩) (by decide +kernel), by decide +kernel, by decide +kernel⟩,
    ⟨_, _, _, _, _, taken .unlock .media (u8 1 ++ u8 9 ++ u8 9 ++ u8 9 ++ u8 9) quiet (by decide +kernel),
      by decide +kernel, by decide +kernel, by decide +kernel⟩,
    fun d hd => ⟨_, _, _, _, _, free501,
      taken .unlock .media (u8 0 ++ u8 d ++ u8 d ++ u8 d ++ u8 d) busy (by revert d; decide +kernel),
      by revert d; decide +kernel, by revert d; decide +kernel, by revert d; decide +kernel, ?_,
      by revert d; decide +kernel, by revert d; decide +kernel⟩,
    fun n hn d hd q hq => ⟨_, _, _, _, _,
      taken .extend .media (u16 n ++ u8 d ++ u8 d ++ u8 d ++ u8 d) (quiet.setPower ⟨q, none⟩)
        (by revert n d q; decide +kernel), by revert n d; decide +kernel, rfl,
      by revert n d q; decide +kernel, by revert n d q; decide +kernel⟩⟩
  unfold NoStartDue
  revert d
  decide +kernel

/-- `evening` with a number of used minutes and, or not, a limit of 90. -/
def usedUp (n : Nat) (limit : Nat) : State :=
  evening.setParental { evening.parental with
    meters := evening.parental.meters.set 2 ⟨n, 45000, 0⟩
    profiles := evening.parental.profiles.set 1 { defaultProfile with allowance := limit } }

theorem witness_ParentalExpiries :
    ((pinned (some 600000) 0).reached (pinned (some 600000) 0).parental.lockout = true ∧
      (pinned (some 600001) 0).reached (pinned (some 600001) 0).parental.lockout = false) ∧
    (∀ x ∈ [(88, 90), (1439, 1440), (0, 1440)], let s := usedUp x.1 x.2;
      s.reached s.parental.minuteExpiry = true ∧ Settled s ∧
      (s.parental.activeMeter.used + 1 ≠ s.parental.allowed s.parental.active ∨
        1440 ≤ s.parental.allowed s.parental.active)) ∧
    (∀ x ∈ [(89, 90), (1438, 1439)], let s := usedUp x.1 x.2;
      s.reached s.parental.minuteExpiry = true ∧ Settled s ∧
      s.parental.activeMeter.used + 1 = s.parental.allowed s.parental.active ∧
      s.parental.allowed s.parental.active < 1440 ∧ (s.path 0).snapshot ≠ none) ∧
    (∀ w ∈ [(420, 420), (420, 1260), (1260, 420)], ∀ known : Bool,
      let s := (under { defaultProfile with winStart := w.1, winStop := w.2 } known 0);
      let s := s.setParental { s.parental with edgeExpiry := some 600000 };
      s.reached s.parental.edgeExpiry = true ∧ (s.time.state = .unset ↔ known = false) ∧
      (s.parental.activeProfile.winStart, s.parental.activeProfile.winStop) = w) ∧
    (let s := evening.setCount 21420000;
      s.reached s.parental.rolloverExpiry = true ∧ s.timeKnown = true ∧ s.parental.lastRollover = some 0 ∧
      (0 : Int) < s.localDay) ∧
    (let s := evening.setCount 10014999;
      s.reached s.parental.minuteExpiry = false ∧ s.reached s.parental.edgeExpiry = false ∧
      s.reached s.parental.rolloverExpiry = false) :=
  ⟨by decide +kernel,
    fun x hx => ⟨by revert x; decide +kernel, settled (by revert x; decide +kernel), by revert x; decide +kernel⟩,
    fun x hx => ⟨by revert x; decide +kernel, settled (by revert x; decide +kernel), by revert x; decide +kernel⟩,
    by decide +kernel, by decide +kernel, by decide +kernel⟩

/-! ### Recording jobs -/

/-- The body of a JOB ADD of TIME on a service, without and with an EVENT trigger. -/
def timeBody (sid x y before after : Nat) : List Byte :=
  u16 sid ++ u8 1 ++ u32 x ++ u32 y ++ u16 before ++ u16 after ++ u8 0 ++ u32 0

def eventBody (sid e : Nat) (buy d : Nat) : List Byte :=
  u16 sid ++ u8 2 ++ u16 e ++ u16 0 ++ u16 0 ++ u8 buy ++ u8 d ++ u8 d ++ u8 d ++ u8 d

/-- Jobs one after another, of one state. -/
def queueOf (n : Nat) (st : JobState) : List Job :=
  (List.range n).map fun i =>
    ⟨i + 1, 501, .time, 9000000 + 1000 * i, 9000500 + 1000 * i, 0, 0, false, st, none, 0, none, false, none,
      none, none⟩

/-- A JOB ADD for a span of service 501 has been taken. -/
def AddsSpan (s : State) (x y before after : Nat) : Prop :=
  ∃ a tag body rest, Taken s a .jobAdd tag body rest ∧
    jobRequestOf body = some ⟨501, .time x y, before, after, false, pinZero⟩ ∧ s.time.state ≠ .unset ∧
    s.lineup.service 501 = some free501

def spanAsked (x y before after : Nat) (s : State) : State :=
  asked .jobAdd .media (timeBody 501 x y before after) s

theorem addsSpan (x y before after : Nat) (s : State)
    (h : headRefusal .jobAdd .media (timeBody 501 x y before after) (spanAsked x y before after s) = none)
    (r : jobRequestOf (timeBody 501 x y before after) = some ⟨501, .time x y, before, after, false, pinZero⟩)
    (t : (spanAsked x y before after s).time.state ≠ .unset)
    (l : (spanAsked x y before after s).lineup.service 501 = some free501) :
    AddsSpan (spanAsked x y before after s) x y before after :=
  ⟨.media, 5, _, [], taken .jobAdd .media _ s h, r, t, l⟩

/-- The refusals of JOB ADD at second 7,999,780 and its acceptance, each where it begins. -/
theorem witness_JobRequests :
    (∃ s a tag body rest, Taken s a .jobAdd tag body rest ∧ jobRequestOf body = none) ∧
    (∃ s a tag body rest r, Taken s a .jobAdd tag body rest ∧ jobRequestOf body = some r ∧
      s.time.state = .unset) ∧
    (∃ s a tag body rest r, Taken s a .jobAdd tag body rest ∧ jobRequestOf body = some r ∧
      s.time.state ≠ .unset ∧ s.lineup.service r.service = none) ∧
    (∃ s a tag body rest r v e, Taken s a .jobAdd tag body rest ∧ jobRequestOf body = some r ∧
      s.time.state ≠ .unset ∧ s.lineup.service r.service = some v ∧ r.trigger = .event e ∧
      s.guide.event r.service e = none) ∧
    (∃ s, AddsSpan s 8000000 8000000 0 0) ∧
    (∃ s, AddsSpan s 7999000 7999700 0 80 ∧ 7999700 + 80 = s.netSec) ∧
    (∃ s, AddsSpan s 8000000 8028800 0 1 ∧ s.netSec < 8028800) ∧
    (∃ s, AddsSpan s 9000000 9000500 0 0 ∧ conflictFree s.jobs.list 0 9000000 9000500 = false) ∧
    (∀ d ∈ [0, 9], ∃ s a tag body rest r v g, Taken s a .jobAdd tag body rest ∧ jobRequestOf body = some r ∧
      s.time.state ≠ .unset ∧ s.lineup.service r.service = some v ∧ r.trigger = .event 72 ∧
      s.guide.event r.service 72 = some g ∧ g.price = 0 ∧ s.netSec < g.start ∧
      conflictFree s.jobs.list 0 g.start (g.start + g.duration) = true ∧ r.buy = true ∧
      ((pinCheck r.pin [s.parental.masterPin] s).1 = .passed ↔ d = 0) ∧
      ((pinCheck r.pin [s.parental.masterPin] s).1.refusal.isSome = true ↔ d = 9)) ∧
    (∃ s, AddsSpan s 8000000 8000001 0 0 ∧ s.jobs.list.length = 32 ∧
      conflictFree s.jobs.list 0 8000000 8000001 = true ∧
      ∀ j ∈ s.jobs.list, j.state = .scheduled ∨ j.state = .active) ∧
    (∃ s, AddsSpan s 8000000 8027000 0 1800 ∧ s.jobs.list.length = 31 ∧ Settled s ∧
      (s.netSec : Int) < 8000000 ∧ conflictFree s.jobs.list 0 8000000 8028800 = true) ∧
    (∃ s, AddsSpan s 8001581 8002000 1801 1801 ∧ s.jobs.list.length = 32 ∧ Settled s ∧
      (s.netSec : Int) < (8001581 : Int) - 1800 ∧ (∃ j ∈ s.jobs.list, j.state ≠ .scheduled ∧ j.state ≠ .active) ∧
      conflictFree s.jobs.list 0 7999781 8003800 = true) ∧
    ((queueOf 254 .scheduled).length < 255 ∧
      queueOf 32 .complete = [] ++ (queueOf 1 .complete)[0] :: (queueOf 32 .complete).tail) ∧
    (∃ s a tag body rest, Taken s a .jobRemove tag body rest ∧ fields [1] body = some [0]) ∧
    (∃ s a tag body rest, Taken s a .jobRemove tag body rest ∧ fields [1] body = some [255] ∧
      s.job 255 = none) ∧
    (∃ s a tag body rest j, Taken s a .jobRemove tag body rest ∧ fields [1] body = some [1] ∧
      s.job 1 = some j ∧ j.state ≠ .active ∧ Settled s) ∧
    (∃ s a tag body rest j p, Taken s a .jobRemove tag body rest ∧ fields [1] body = some [1] ∧
      s.job 1 = some j ∧ j.state = .active ∧ j.path = some p ∧ (s.path p).snapshot ≠ none ∧ NoStartDue s) := by
  refine ⟨⟨_, _, _, _, _, taken .jobAdd .media [] quiet (by decide +kernel), by decide +kernel⟩,
    ⟨_, _, _, _, _, ⟨810, .event 72, 0, 0, false, pinZero⟩,
      taken .jobAdd .media (eventBody 810 72 0 0) State.reset (by decide +kernel), by decide +kernel,
      by decide +kernel⟩,
    ⟨_, _, _, _, _, ⟨65535, .event 72, 0, 0, false, pinZero⟩,
      taken .jobAdd .media (eventBody 65535 72 0 0) quiet (by decide +kernel), by decide +kernel,
      by decide +kernel, by decide +kernel⟩,
    ⟨_, _, _, _, _, ⟨810, .event 73, 0, 0, false, pinZero⟩, sold810, 73,
      taken .jobAdd .media (eventBody 810 73 0 0) quiet (by decide +kernel), by decide +kernel,
      by decide +kernel, by decide +kernel, rfl, by decide +kernel⟩,
    ⟨_, addsSpan 8000000 8000000 0 0 quiet (by decide +kernel) (by decide +kernel) (by decide +kernel)
      (by decide +kernel)⟩,
    ⟨_, addsSpan 7999000 7999700 0 80 quiet (by decide +kernel) (by decide +kernel) (by decide +kernel)
      (by decide +kernel), by decide +kernel⟩,
    ⟨_, addsSpan 8000000 8028800 0 1 quiet (by decide +kernel) (by decide +kernel) (by decide +kernel)
      (by decide +kernel), by decide +kernel⟩,
    ⟨_, addsSpan 9000000 9000500 0 0
      (quiet.setJobs ⟨(List.replicate 4 (queueOf 1 .scheduled)).flatten, 1⟩) (by decide +kernel)
      (by decide +kernel) (by decide +kernel) (by decide +kernel), by decide +kernel⟩,
    fun d hd => ⟨_, _, _, _, _, ⟨810, .event 72, 0, 0, true, ⟨d, d, d, d⟩⟩, sold810, { event72 with price := 0 },
      taken .jobAdd .media (eventBody 810 72 1 d) (quiet.setGuide ⟨[{ event72 with price := 0 }], 660000⟩)
        (by revert d; decide +kernel), by revert d; decide +kernel, by revert d; decide +kernel,
      by revert d; decide +kernel, rfl, by revert d; decide +kernel, rfl, by revert d; decide +kernel,
      by revert d; decide +kernel, rfl, by revert d; decide +kernel, by revert d; decide +kernel⟩,
    ⟨_, addsSpan 8000000 8000001 0 0 (quiet.setJobs ⟨queueOf 32 .scheduled, 32⟩) (by decide +kernel)
      (by decide +kernel) (by decide +kernel) (by decide +kernel), by decide +kernel⟩,
    ⟨_, addsSpan 8000000 8027000 0 1800 (quiet.setJobs ⟨queueOf 31 .scheduled, 31⟩) (by decide +kernel)
      (by decide +kernel) (by decide +kernel) (by decide +kernel), by decide +kernel,
      settled (by decide +kernel), by decide +kernel, by decide +kernel⟩,
    ⟨_, addsSpan 8001581 8002000 1801 1801 (quiet.setJobs ⟨queueOf 32 .missed, 32⟩) (by decide +kernel)
      (by decide +kernel) (by decide +kernel) (by decide +kernel), by decide +kernel,
      settled (by decide +kernel), by decide +kernel, by decide +kernel, by decide +kernel⟩,
    by decide +kernel,
    ⟨_, _, _, _, _, taken .jobRemove .media (u8 0) quiet (by decide +kernel), by decide +kernel⟩,
    ⟨_, _, _, _, _, taken .jobRemove .media (u8 255) quiet (by decide +kernel), by decide +kernel,
      by decide +kernel⟩,
    ⟨_, _, _, _, _, (queueOf 1 .scheduled)[0], taken .jobRemove .media (u8 1)
      (quiet.setJobs ⟨queueOf 32 .scheduled, 32⟩) (by decide +kernel), by decide +kernel,
      by decide +kernel, by decide +kernel, settled (by decide +kernel)⟩,
    ⟨_, _, _, _, _, runningJob 1 2 505, 2, taken .jobRemove .media (u8 1) busy (by decide +kernel),
      by decide +kernel, by decide +kernel, by decide +kernel, by decide +kernel, by decide +kernel, ?_⟩⟩
  unfold NoStartDue
  decide +kernel

/-- A SCHEDULED job 9 that has come to its start, or is start due. -/
def dueJob (sid : Nat) (due : Bool) : Job :=
  ⟨9, sid, .time, 7999000, 8002000, 0, 0, false, .scheduled, none, 0, none, due,
    if due then none else some 600000, if due then some 600000 else none, none⟩

/-- `busy` with all four record paths in use. -/
def packed (j : Job) : State :=
  let s := busy.setInput 3 (locked 31 [4, 5])
  (s.setPath 5 (onInput free504 3 (some 4))).setJobs ⟨j :: runningJob 4 5 504 :: busy.jobs.list, 20⟩

theorem witness_JobStartsAndEnds_JobStarts :
    (∀ due : Bool, ∃ (s : State) (j : Job) (v : Service) (p : PathNo) (c : Instr),
      (c = .jobStart 9 ∧ s.reached j.startExpiry = true ∧ j.startDue = false ∨
        c = .startDueJobStart 9 ∧ j.startDue = true ∧ s.claimQueue = []) ∧
      s.time.state ≠ .unset ∧ s.job 9 = some j ∧ j.state = .scheduled ∧ j.buy = false ∧ s.lineup.service j.service = some v ∧
      idleRecordPath s = some p ∧ HoldersOk s ∧ TablesOk s ∧ s.power.state = .active ∧
      (∀ k ∈ s.jobs.list, k.startDue = true → k.id = 9) ∧ j.startDue = due) ∧
    (∃ (s : State) (j : Job) (v : Service), s.job 9 = some j ∧ j.state = .scheduled ∧
      s.reached j.startExpiry = true ∧ Settled s ∧ s.lineup.service j.service = some v ∧
      idleRecordPath s = none) ∧
    (∃ (s : State) (j : Job), s.job 9 = some j ∧ j.state = .scheduled ∧
      s.reached j.startExpiry = true ∧ Settled s ∧ s.lineup.service j.service = none) ∧
    (∃ (s : State), ∀ j, s.job 9 = some j → s.reached j.startExpiry = false) ∧
    (∃ (s : State), Settled s ∧ ∀ j, s.job 9 = some j → j.startDue = false) := by
  have h (j : Job) : HoldersOk (quiet.setJobs ⟨[j], 9⟩) :=
    ⟨quiet_holdersOk.1, quiet_holdersOk.2, quiet_holdersOk.3, quiet_holdersOk.4, quiet_holdersOk.5,
      quiet_holdersOk.6, quiet_holdersOk.7⟩
  refine ⟨fun due => ⟨quiet.setJobs ⟨[dueJob 501 due], 9⟩, dueJob 501 due, free501, 2,
      if due then .startDueJobStart 9 else .jobStart 9, by cases due <;> decide +kernel,
      by cases due <;> decide +kernel, rfl, rfl, rfl, by cases due <;> decide +kernel,
      by cases due <;> decide +kernel, h _, quiet_tablesOk _, by cases due <;> decide +kernel,
      by cases due <;> decide +kernel, rfl⟩,
    ⟨packed (dueJob 501 false), dueJob 501 false, free501, by decide +kernel, by decide +kernel, by decide +kernel,
      settled (by decide +kernel), by decide +kernel, by decide +kernel⟩,
    ⟨quiet.setJobs ⟨[dueJob 999 false], 9⟩, dueJob 999 false, by decide +kernel, by decide +kernel,
      by decide +kernel, settled (by decide +kernel), by decide +kernel⟩,
    ⟨(quiet.setJobs ⟨[dueJob 501 false], 9⟩).setCount 599999, of_all (by decide +kernel)⟩,
    ⟨quiet.setJobs ⟨[dueJob 501 false], 9⟩, settled (by decide +kernel), of_all (by decide +kernel)⟩⟩

/-- `busy` with job 2 at its end and its grace expiry, on a path in a state. -/
def ending (st : PathState) : State :=
  let s := busy.setJobs ⟨[{ runningJob 2 3 503 with graceExpiry := some 600000, endExpiry := some 600000 }], 20⟩
  s.setPath 3 { onInput paid506 2 (some 2) with state := st }

theorem witness_JobStartsAndEnds_JobEnds :
    (∃ (s : State) (j : Job) (p : PathNo), s.job 2 = some j ∧ j.id = 2 ∧ j.path = some p ∧
      (s.path p).snapshot ≠ none ∧ NoStartDue s ∧ s.reached j.endExpiry = true ∧ j.state = .active) ∧
    (∃ (s : State) (j : Job) (p : PathNo) (r : AccessReason), s.job 2 = some j ∧ j.id = 2 ∧ j.path = some p ∧
      (s.path p).snapshot ≠ none ∧ NoStartDue s ∧ s.reached j.graceExpiry = true ∧
      (s.path p).state = .denied r) ∧
    (∃ (s : State) (j : Job), s.job 9 = some j ∧ s.reached j.endExpiry = true ∧ j.state = .scheduled ∧
      j.startDue = true ∧ Settled s) ∧
    (∃ (s : State) (j : Job), s.job 2 = some j ∧ s.reached j.graceExpiry = true ∧
      (∀ p r, j.path = some p → (s.path p).state ≠ .denied r) ∧ Settled s) ∧
    (∃ (s : State), (∀ j, s.job 2 = some j → s.reached j.endExpiry = false) ∧
      (∀ j, s.job 2 = some j → s.reached j.graceExpiry = false)) := by
  have n (st : PathState) : NoStartDue (ending st) := by
    show [({ runningJob 2 3 503 with graceExpiry := some 600000, endExpiry := some 600000 } : Job)].all
      (fun j => !j.startDue) = true
    decide +kernel
  refine ⟨⟨ending .presenting, { runningJob 2 3 503 with graceExpiry := some 600000, endExpiry := some 600000 }, 3,
      by decide +kernel, rfl, rfl, by decide +kernel, n _, by decide +kernel, rfl⟩,
    ⟨ending (.denied .notEntitled),
      { runningJob 2 3 503 with graceExpiry := some 600000, endExpiry := some 600000 }, 3, .notEntitled,
      by decide +kernel, rfl, rfl, by decide +kernel, n _, by decide +kernel, by decide +kernel⟩,
    ⟨packed (dueJob 501 true), dueJob 501 true, by decide +kernel, by decide +kernel, rfl, rfl,
      settled (by decide +kernel)⟩,
    ⟨ending .acquiring, { runningJob 2 3 503 with graceExpiry := some 600000, endExpiry := some 600000 },
      by decide +kernel, by decide +kernel, ?_, settled (by decide +kernel)⟩,
    ⟨(ending .presenting).setCount 599999, of_all (by decide +kernel), of_all (by decide +kernel)⟩⟩
  intro p r hp
  cases hp
  have e : ((ending .acquiring).path 3).state = .acquiring := by decide +kernel
  rw [e]
  exact nofun

/-! ### Power states and the stored image -/

/-- `quiet` in a power state, with dirty sections, a write under way or not, and a staging lineup or none. -/
def powered (q : PowerState) (dirty : List Sect) (writing staging : Bool) : State :=
  let s := quiet.setPower ⟨q, if q = .quiescing then some nextLineup else none⟩
  let s := if staging then s.setStaging (some nextLineup) else s
  s.setStore { s.store with
    dirty := dirty
    dirtySince := if dirty = [] then none else some 590000
    write := if writing then some ⟨590000, 600000, imageOf quiet⟩ else none }

theorem witness_PowerRequests :
    (∀ q ∈ [PowerState.quiescing, .standby, .service], ∃ s a tag rest, Taken s a .standby tag [] rest ∧
      s.power.state = q) ∧
    (∀ d ∈ [[], [Sect.jobs]], ∀ w : Bool, ∃ s a tag rest, Taken s a .standby tag [] rest ∧
      s.power.state = .active ∧ s.store.dirty = d ∧ (s.store.write = none ↔ w = false) ∧
      verifyCount s = 0 ∧ s.staging = none) ∧
    (∃ s a tag rest, Taken s a .standby tag [] rest ∧ s.power.state = .active ∧ verifyCount s ≠ 0 ∧
      s.staging ≠ none) ∧
    (∃ s a tag rest, Taken s a .standby tag [] rest ∧ s.power.state = .active ∧ s.store.dirty = [] ∧
      s.store.write = none ∧ verifyCount s = 0 ∧ s.staging = none ∧ s.parental.run = none ∧ HoldersOk s ∧
      Settled s ∧ NoStartDue s) ∧
    (quiet.power.state ≠ .quiescing ∧
      (let s := powered .quiescing [.jobs] false false; s.power.state = .quiescing ∧ drained s = false) ∧
      (let s := powered .quiescing [] false false; s.power.state = .quiescing ∧ drained s = true)) ∧
    (∀ q ∈ [PowerState.active, .quiescing, .standby, .service], ∃ s a tag rest,
      Taken s a .wake tag [] rest ∧ s.power.state = q) ∧
    (∃ s a tag rest, Taken s a .wake tag [] rest ∧ s.power.state = .standby ∧
      s.card.state = .idleClock) := by
  refine ⟨fun q hq => ⟨asked .standby .media [] (powered q [] false false), _, _, _,
      taken .standby .media [] (powered q [] false false) (by revert q; decide +kernel), rfl⟩,
    fun d hd w => ⟨asked .standby .media [] (powered .active d w false), _, _, _,
      taken .standby .media [] (powered .active d w false) (by revert d w; decide +kernel), rfl, rfl,
      by revert d w; decide +kernel, by revert d w; decide +kernel, rfl⟩,
    ⟨_, _, _, _, taken .standby .media [] sleepy (by decide +kernel), by decide +kernel, by decide +kernel,
      by decide +kernel⟩,
    ⟨_, _, _, _, taken .standby .media [] quiet (by decide +kernel), by decide +kernel, by decide +kernel,
      by decide +kernel, by decide +kernel, by decide +kernel, by decide +kernel, HoldersOk_asked quiet_holdersOk,
      settled (by decide +kernel), ?_⟩,
    by decide +kernel,
    fun q hq => ⟨asked .wake .media [] (powered q [] false false), _, _, _,
      taken .wake .media [] (powered q [] false false) (by revert q; decide +kernel), rfl⟩,
    ⟨_, _, _, _, taken .wake .media [] ((cardIn .idleClock).setPower ⟨.standby, none⟩) (by decide +kernel),
      by decide +kernel, by decide +kernel⟩⟩
  unfold NoStartDue
  decide +kernel

theorem witness_ImageWritten_ImageMarked :
    (powered .active [] false false).power.state ≠ .quiescing ∧
    (∃ w, (powered .quiescing [] true false).power.state = .quiescing ∧
      (powered .quiescing [] true false).store.write = some w) ∧
    ((powered .quiescing [] false false).power.state = .quiescing ∧
      (powered .quiescing [] false false).store.write = none) :=
  ⟨by decide +kernel, ⟨_, rfl, rfl⟩, rfl, rfl⟩

/-- The same with a commit delay. -/
def delayed (q : PowerState) (dirty : List Sect) (writing : Bool) : State :=
  let s := powered q dirty writing false
  s.setStore { s.store with commitDelay := some 600000 }

theorem witness_ImageWritten :
    ((delayed .active [.jobs] false).store.write = none ∧
      (delayed .active [.jobs] false).reached (delayed .active [.jobs] false).store.commitDelay = true) ∧
    ((powered .active [.jobs] false false).store.write = none ∧
      (powered .active [.jobs] false false).store.dirty ≠ [] ∧
      (powered .active [.jobs] false false).store.commitDelay = none) ∧
    ((delayed .active [] true).store.write ≠ none ∧
      (delayed .active [] true).reached (delayed .active [] true).store.commitDelay = true) ∧
    (let s := (delayed .active [.jobs] false).setCount 599999; s.reached s.store.commitDelay = false) ∧
    ((powered .active [] false false).store.dirty = []) ∧
    (∃ w : Write, (powered .active [] true false).store.write = some w ∧ Settled (powered .active [] true false) ∧
      (powered .active [] true false).power.state ≠ .quiescing ∧ (powered .active [] true false).store.dirty = [] ∧
      w.timeout ≤ (powered .active [] true false).localCount ∧ imageInRange w.image = true) ∧
    (∃ w : Write, (delayed .active [.jobs] true).store.write = some w ∧ Settled (delayed .active [.jobs] true) ∧
      (delayed .active [.jobs] true).power.state ≠ .quiescing ∧
      (delayed .active [.jobs] true).store.commitDelay ≠ none) ∧
    (∃ w : Write, (powered .active [.jobs] true false).store.write = some w ∧
      Settled (powered .active [.jobs] true false) ∧
      (powered .active [.jobs] true false).power.state ≠ .quiescing ∧
      (powered .active [.jobs] true false).store.dirty ≠ [] ∧
      (powered .active [.jobs] true false).store.commitDelay = none) ∧
    (∀ d ∈ [[], [Sect.jobs]], ∃ w : Write, (powered .quiescing d true false).store.write = some w ∧
      Settled (powered .quiescing d true false) ∧ (powered .quiescing d true false).power.state = .quiescing ∧
      (powered .quiescing d true false).store.dirty = d ∧ verifyCount (powered .quiescing d true false) = 0 ∧
      (powered .quiescing d true false).staging = none) ∧
    (powered .active [] false false).store.write = none ∧
    (∃ w : Write, ((powered .active [] true false).setCount 599999).store.write = some w ∧
      ((powered .active [] true false).setCount 599999).localCount < w.timeout) :=
  ⟨by decide +kernel, by decide +kernel, by decide +kernel, by decide +kernel, rfl,
    ⟨_, rfl, settled (by decide +kernel), by decide +kernel, rfl, by decide +kernel, by decide +kernel⟩,
    ⟨_, rfl, settled (by decide +kernel), by decide +kernel, by decide +kernel⟩,
    ⟨_, rfl, settled (by decide +kernel), by decide +kernel, by decide +kernel, by decide +kernel⟩,
    fun d hd => ⟨_, rfl, settled (by revert d; decide +kernel), rfl, rfl, by revert d; decide +kernel, rfl⟩,
    rfl, ⟨_, rfl, by decide +kernel⟩⟩

/-! ### Clauses of several statements, each at the ends of its ranges -/

/-- The tests of R45 at second 7,999,780: an event of no duration, one that ends now, one that ends a second later,
one that starts 1,209,600 s from now and one a second later. -/
theorem witness_GuideCommandsDo_tests :
    (event72.duration ≠ 0 ∧ ({ event72 with duration := 0 } : GuideEvent).duration = 0) ∧
    (7999000 + 780 ≤ quiet.netSec ∧ quiet.netSec < 7999000 + 781) ∧
    (quiet.netSec < 9209380 + 1 ∧ 9209380 ≤ quiet.netSec + 1209600 ∧ quiet.netSec + 1209600 < 9209381) := by
  decide +kernel

/-- The fields of a PURCHASE: service id 0, a digit of 10 in each place, and bodies of 7 and 9 bytes. -/
theorem witness_PurchaseTaken_fields :
    (∀ x ∈ [[0, 72, 10, 10, 10, 10], [1, 72, 10, 0, 0, 0], [1, 72, 0, 10, 0, 0], [1, 72, 0, 0, 10, 0],
        [65535, 72, 0, 0, 0, 10]], ∃ s a tag body rest, Taken s a .purchase tag body rest ∧
      fields [2, 2, 1, 1, 1, 1] body = some x) ∧
    (∀ n ∈ [7, 9], ∃ s a tag body rest, Taken s a .purchase tag body rest ∧ body.length = n) :=
  ⟨fun x hx => ⟨_, _, _, _, _, taken .purchase .media (u16 (x.getD 0 0) ++ u16 (x.getD 1 0) ++
      u8 (x.getD 2 0) ++ u8 (x.getD 3 0) ++ u8 (x.getD 4 0) ++ u8 (x.getD 5 0)) quiet
      (by revert x; decide +kernel), by revert x; decide +kernel⟩,
    fun n hn => ⟨_, _, _, _, _, taken .purchase .media (List.replicate n 0) quiet (by revert n; decide +kernel),
      List.length_replicate⟩⟩

theorem TablesOk_setGuide {s : State} (g : Guide) (h : TablesOk s) : TablesOk (s.setGuide g) :=
  ⟨h.1, h.2, h.3, h.4, h.5⟩

theorem TablesOk_asked {q : Req} {a : Agent} {body : List Byte} {s : State} (h : TablesOk s) :
    TablesOk (asked q a body s) := by
  cases a <;> exact ⟨h.1, h.2, h.3, h.4, h.5⟩

theorem tablesOk {s : State}
    (h1 : s.access.tiers.length ≤ 64 ∧ s.access.tiers.Pairwise fun r q => r.tier < q.tier)
    (h2 : s.access.purchases.length ≤ 64 ∧
      s.access.purchases.Pairwise fun r q => r.service ≠ q.service ∨ r.event ≠ q.event)
    (h3 : s.jobs.list.length ≤ 32 ∧ (s.jobs.list.map (·.id)).Nodup) (h4 : s.staging = none)
    (h5 : (s.card.outstanding.map (·.tag)).Nodup ∧ ∀ e ∈ s.card.outstanding, e.tag < 4) : TablesOk s :=
  ⟨h1, h2, h3, of_none h4, h5⟩

/-- The guide holds event 72 of service 810 at a time, with a price of 400. -/
def guided (x d : Nat) : Guide := ⟨[⟨810, 72, x, d, none, 400, 0⟩], 660000⟩

/-- `quiet`, or `packed` with no IDLE record path, with event 72 from now on, a balance and a purchase list. -/
def sale (balance : Nat) (ps : List PurchaseRecord) : State :=
  (quiet.setGuide (guided 7999780 600)).setAccess { quiet.access with balance := balance, purchases := ps }

/-- A JOB ADD of event 72 has been taken, and its span passes the checks up to the conflict check. -/
def AddsEvent (s : State) (buy : Bool) : Prop :=
  ∃ a tag body rest g, Taken s a .jobAdd tag body rest ∧
    jobRequestOf body = some ⟨810, .event 72, 0, 0, buy, pinZero⟩ ∧ s.time.state ≠ .unset ∧
    s.lineup.service 810 = some sold810 ∧ sold810.access = .event ∧ s.guide.event 810 72 = some g ∧
    0 < g.price ∧ s.netSec < g.start + g.duration ∧
    conflictFree s.jobs.list 0 g.start (g.start + g.duration) = true ∧
    (pinCheck pinZero [s.parental.masterPin] s).1 = .passed

def eventAsked (buy : Bool) (s : State) : State :=
  asked .jobAdd .media (eventBody 810 72 (if buy then 1 else 0) 0) s

theorem addsEvent (buy : Bool) (s : State) (g : GuideEvent)
    (h : headRefusal .jobAdd .media (eventBody 810 72 (if buy then 1 else 0) 0) (eventAsked buy s) = none)
    (r : jobRequestOf (eventBody 810 72 (if buy then 1 else 0) 0) =
      some ⟨810, .event 72, 0, 0, buy, pinZero⟩)
    (t : (eventAsked buy s).time.state ≠ .unset ∧ (eventAsked buy s).lineup.service 810 = some sold810 ∧
      sold810.access = .event ∧ (eventAsked buy s).guide.event 810 72 = some g ∧ 0 < g.price ∧
      (eventAsked buy s).netSec < g.start + g.duration ∧
      conflictFree (eventAsked buy s).jobs.list 0 g.start (g.start + g.duration) = true ∧
      (pinCheck pinZero [(eventAsked buy s).parental.masterPin] (eventAsked buy s)).1 = .passed) :
    AddsEvent (eventAsked buy s) buy :=
  ⟨.media, 5, _, [], g, taken .jobAdd .media _ s h, r, t⟩

/-- `sale` with job 9, whatever it is. -/
def job72 (buy : Bool) : Job :=
  ⟨9, 810, .event 72, 7999000, 8002000, 0, 0, buy, .scheduled, none, 0, none, false, some 600000, none, none⟩

theorem sale_holdersOk (b : Nat) (ps : List PurchaseRecord) : HoldersOk (sale b ps) :=
  ⟨quiet_holdersOk.1, quiet_holdersOk.2, quiet_holdersOk.3, quiet_holdersOk.4, quiet_holdersOk.5,
    quiet_holdersOk.6, quiet_holdersOk.7⟩

theorem HoldersOk_setGuide {s : State} (g : Guide) (h : HoldersOk s) : HoldersOk (s.setGuide g) :=
  ⟨h.1, h.2, h.3, h.4, h.5, h.6, h.7⟩

theorem HoldersOk_setJobs {s : State} (j : Jobs) (h : HoldersOk s) : HoldersOk (s.setJobs j) :=
  ⟨h.1, h.2, h.3, h.4, h.5, h.6, h.7⟩

/-- JOB ADD with its buy flag: a full list; an event ahead; one that has begun, without an IDLE record path, and with
one, where its buy buys, finds too little credit or finds the list full; and one that has begun, without the flag. -/
theorem witness_JobRequests_buy :
    (∃ s, AddsEvent s true ∧ s.jobs.list.length = 32 ∧
      ∀ j ∈ s.jobs.list, j.state = .scheduled ∨ j.state = .active) ∧
    (∃ s, AddsEvent s true ∧ s.jobs.list.length < 32 ∧ Settled s ∧ (s.netSec : Int) < 8000000) ∧
    (∃ s, AddsEvent s false ∧ s.jobs.list.length < 32 ∧ Settled s ∧ TablesOk s ∧ s.netSec = 7999780 ∧
      idleRecordPath s = none) ∧
    (∀ x ∈ [(true, 400, 63, none), (true, 399, 63, some FailReason.noCredit), (true, 400, 64, some .listFull),
        (false, 0, 0, none)],
      ∃ (s : State) (k : Job), AddsEvent s x.1 ∧ s.jobs.list.length < 32 ∧ NoStartDue s ∧ TablesOk s ∧ HoldersOk s ∧
        s.power.state = .active ∧ s.netSec = 7999780 ∧ idleRecordPath s = some 2 ∧ k.service = 810 ∧
        k.trigger = .event 72 ∧ k.buy = x.1 ∧ (buyOutcome s k).1 = x.2.2.2 ∧
        s.access.balance = x.2.1 ∧ s.access.purchases.length = x.2.2.1) := by
  refine ⟨⟨_, addsEvent true (quiet.setJobs ⟨queueOf 32 .scheduled, 32⟩) event72 (by decide +kernel)
      (by decide +kernel) (by decide +kernel), by decide +kernel, by decide +kernel⟩,
    ⟨_, addsEvent true quiet event72 (by decide +kernel) (by decide +kernel) (by decide +kernel),
      by decide +kernel, settled (by decide +kernel), by decide +kernel⟩,
    ⟨_, addsEvent false (((sale 0 []).setPaths (packed (dueJob 501 false)).paths).setInputs
        (packed (dueJob 501 false)).inputs) ⟨810, 72, 7999780, 600, none, 400, 0⟩ (by decide +kernel)
      (by decide +kernel) (by decide +kernel), by decide +kernel, settled (by decide +kernel),
      TablesOk_asked (tablesOk (by decide +kernel) (by decide +kernel) (by decide +kernel) rfl (by decide +kernel)),
      by decide +kernel, by decide +kernel⟩,
    fun x hx => ⟨eventAsked x.1 (sale x.2.1 (fullList x.2.2.1)), job72 x.1,
      addsEvent x.1 (sale x.2.1 (fullList x.2.2.1)) ⟨810, 72, 7999780, 600, none, 400, 0⟩
        (by revert x; decide +kernel) (by revert x; decide +kernel) (by revert x; decide +kernel),
      by revert x; decide +kernel, ?_,
      TablesOk_asked (tablesOk (by revert x; decide +kernel) (by revert x; decide +kernel)
        (by revert x; decide +kernel) rfl (by revert x; decide +kernel)),
      HoldersOk_asked (sale_holdersOk _ _), rfl, by revert x; decide +kernel, by revert x; decide +kernel, rfl, rfl,
      rfl, by revert x; decide +kernel, rfl, by revert x; decide +kernel⟩⟩
  unfold NoStartDue
  revert x
  decide +kernel

/-- The start of a job with its buy flag: bought, too little credit, a full list, bought already and ended. -/
theorem witness_JobStarts_buy :
    ∀ x ∈ [(400, fullList 63, 7999780, none), (399, fullList 63, 7999780, some FailReason.noCredit),
        (400, fullList 64, 7999780, some .listFull), (0, [bought72], 7999780, none),
        (0, fullList 64, 7999180, none)],
      ∃ (s : State) (j : Job), s.job 9 = some j ∧ s.reached j.startExpiry = true ∧ j.startDue = false ∧
        s.time.state ≠ .unset ∧ j.state = .scheduled ∧ j.buy = true ∧ s.lineup.service j.service = some sold810 ∧
        idleRecordPath s = some 2 ∧ HoldersOk s ∧ TablesOk s ∧ s.power.state = .active ∧
        (∀ k ∈ s.jobs.list, k.startDue = true → k.id = 9) ∧ (buyOutcome s j).1 = x.2.2.2 := by
  intro x hx
  refine ⟨((sale x.1 x.2.1).setGuide (guided x.2.2.1 600)).setJobs ⟨[job72 true], 9⟩, job72 true, rfl, ?_, rfl, ?_,
    rfl, rfl, ?_, ?_, HoldersOk_setJobs _ (HoldersOk_setGuide _ (sale_holdersOk x.1 x.2.1)), tablesOk ?_ ?_ ?_ rfl ?_,
    rfl, ?_, ?_⟩ <;>
    revert x <;> decide +kernel

/-- Job 9 with an event trigger, in a state, from 7,999,000 to 8,002,000, on no path or on one. -/
def follower (st : JobState) (p : Option PathNo) : Job :=
  ⟨9, 810, .event 72, 7999000, 8002000, 0, 0, false, st, none, 0, p, false, none, none, none⟩

/-- `quiet` with job 9 and event 72 from `x` on for `d`, or gone when `d` is 0. -/
def followed (j : Job) (x d : Nat) : State :=
  (quiet.setJobs ⟨[j], 9⟩).setGuide (if d = 0 then ⟨[], 660000⟩ else guided x d)

theorem followed_tablesOk (j : Job) (x d : Nat) : TablesOk (followed j x d) :=
  TablesOk_setGuide _ (quiet_tablesOk j)

/-- Each case of R166 at second 7,999,780: not followed, gone, held, over, in conflict, ahead and due; then the ACTIVE
ones. -/
theorem witness_EventReread :
    (∀ j ∈ [dueJob 501 false, follower .complete none], ∃ s : State, s.job 9 = some j ∧ TablesOk s ∧
      (j.trigger = .time ∨ (j.state ≠ .scheduled ∧ j.state ≠ .active))) ∧
    (∀ st ∈ [JobState.scheduled, .active], ∃ (s : State) (j : Job), s.job 9 = some j ∧ TablesOk s ∧
      j.trigger = .event 72 ∧ j.state = st ∧ s.guide.event j.service 72 = none) ∧
    (∀ st ∈ [JobState.scheduled, .active], ∀ x ∈ [(7999000, 3000), (7999000, 780), (7999000, 781),
        (7999780, 100), (7999781, 100)],
      ∃ (s : State) (j : Job) (e : GuideEvent), s.job 9 = some j ∧ TablesOk s ∧ j.trigger = .event 72 ∧
        j.state = st ∧ s.guide.event j.service 72 = some e ∧ (e.start, e.duration) = x ∧ s.netSec = 7999780 ∧
        conflictFree s.jobs.list 9 e.start (e.start + e.duration) = true) ∧
    (∀ st ∈ [JobState.scheduled, .active], ∃ (s : State) (j : Job) (e : GuideEvent), s.job 9 = some j ∧ TablesOk s ∧
      j.trigger = .event 72 ∧ j.state = st ∧ s.guide.event j.service 72 = some e ∧ s.netSec < e.start ∧
      conflictFree s.jobs.list 9 e.start (e.start + e.duration) = false) ∧
    (idleRecordPath (followed (follower .scheduled none) 7999780 100) = some 2 ∧
      ∃ (s : State) (j : Job) (e : GuideEvent), s.job 9 = some j ∧ TablesOk s ∧ j.trigger = .event 72 ∧
        j.state = .scheduled ∧ s.guide.event j.service 72 = some e ∧ e.start = s.netSec ∧
        idleRecordPath s = none) ∧
    (∀ st ∈ [JobState.scheduled, .active], ∃ s a tag body rest j, Taken s a .guideDrop tag body rest ∧
      fields [2, 2] body = some [810, 72] ∧ s.guide.event 810 72 ≠ none ∧ TablesOk s ∧ Settled s ∧
      j ∈ s.jobs.list ∧ j.service = 810 ∧ j.trigger = .event 72 ∧ j.state = st) ∧
    (∃ s a tag body bs rest, ∃ (e : GuideEvent) (j : Job), Taken s a .guideLoad tag body rest ∧
      takeFields [2] body = some ([810], bs) ∧ takeList (takeEvent 810) bs = some ([some e], []) ∧ e.id = 72 ∧
      0 < e.duration ∧ s.timeKnown = true ∧ e.start ≤ s.netSec + 1209600 ∧ s.guide.pool.length < 4096 ∧
      Settled s ∧ s.jobs.list = [j] ∧ j.service = 810 ∧ j.trigger = .event 72 ∧ j.state = .scheduled ∧
      (j.start ≠ e.start ∨ j.stop ≠ e.start + e.duration) ∧ s.netSec < e.start) := by
  refine ⟨?_, ?_, ?_, ?_, ⟨by decide +kernel, ?_⟩, ?_, ?_⟩
  · exact fun j hj => ⟨followed j 7999000 780, by revert j; decide +kernel, followed_tablesOk _ _ _,
      by revert j; decide +kernel⟩
  · exact fun st hst => ⟨followed (follower st none) 0 0, follower st none, rfl, followed_tablesOk _ _ _, rfl, rfl,
      by revert st; decide +kernel⟩
  · exact fun st hst x hx => ⟨followed (follower st none) x.1 x.2, follower st none,
      ⟨810, 72, x.1, x.2, none, 400, 0⟩, rfl, followed_tablesOk _ _ _, rfl, rfl, by revert st x; decide +kernel,
      rfl, by revert st x; decide +kernel, by revert st x; decide +kernel⟩
  · exact fun st hst => ⟨(quiet.setJobs ⟨follower st none :: (queueOf 4 .scheduled).map fun k =>
        { k with start := 9000000, stop := 9000500 }, 9⟩).setGuide (guided 9000000 100), follower st none,
      ⟨810, 72, 9000000, 100, none, 400, 0⟩, rfl,
      tablesOk (by revert st; decide +kernel) (by revert st; decide +kernel) (by revert st; decide +kernel) rfl
        (by revert st; decide +kernel), rfl, rfl, by revert st; decide +kernel, by revert st; decide +kernel,
      by revert st; decide +kernel⟩
  · exact ⟨((followed (follower .scheduled none) 7999780 100).setPaths (packed (dueJob 501 false)).paths),
      follower .scheduled none, ⟨810, 72, 7999780, 100, none, 400, 0⟩, rfl,
      tablesOk (by decide +kernel) (by decide +kernel) (by decide +kernel) rfl (by decide +kernel), rfl, rfl,
      by decide +kernel, by decide +kernel, by decide +kernel⟩
  · exact fun st hst => ⟨_, _, _, _, _, follower st none, taken .guideDrop .network (u16 810 ++ u16 72)
      (followed (follower st none) 8000000 1800) (by revert st; decide +kernel), by decide,
      by revert st; decide +kernel, TablesOk_asked (followed_tablesOk _ _ _), settled (by revert st; decide +kernel),
      List.mem_singleton.2 rfl, rfl, rfl, rfl⟩
  · exact ⟨_, _, _, _, u8 1 ++ ev 72 7999781 60, _, ⟨810, 72, 7999781, 60, none, 0, 0⟩, follower .scheduled none,
      taken .guideLoad .network (u16 810 ++ (u8 1 ++ ev 72 7999781 60))
        (followed (follower .scheduled none) 8000000 1800) (by decide +kernel), by decide, by decide +kernel, rfl,
      by decide, by decide +kernel, by decide +kernel, by decide +kernel, settled (by decide +kernel), rfl, rfl, rfl,
      rfl, by decide, by decide +kernel⟩

/-- `busy` at the end of a slew, with a boundary, a tier and a purchase record ahead. -/
def slewed : State :=
  let s := busy.setTime { busy.time with slew := 36, slewEnd := some 600000 }
  let s := s.setPath 0 { s.path 0 with boundary := some ⟨7999781, 600001⟩ }
  s.setAccess { s.access with
    tiers := [⟨9, some 7999781, some 600001⟩], purchases := [{ bought72 with timer := some 700000 }] }

/-- Jobs at second 7,999,782: one over, one begun and one a second ahead; one ACTIVE job at its end, and one before it
(for `act`). -/
def spans (act : Bool) : List Job :=
  let k (i x y : Nat) : Job :=
    ⟨i, 501, .time, x, y, 0, 0, false, .scheduled, none, 0, none, false, none, none, none⟩
  [k 21 7999000 7999782, k 22 7999782 8000000, k 23 7999783 8000000] ++
    if act then [{ runningJob 1 2 505 with stop := 7999782 }, { runningJob 2 3 503 with stop := 7999783 },
      runningJob 3 4 504] else []

def tables : Access :=
  { quiet.access with
    tiers := [⟨1, none, none⟩, ⟨2, some 7999782, none⟩, ⟨3, some 7999783, none⟩]
    purchases := [⟨810, 1, 0, 7999782, 0, 0, true, false, false, none⟩,
      ⟨810, 2, 0, 7999782, 0, 0, false, false, false, none⟩, ⟨810, 3, 0, 7999783, 0, 0, false, true, false, none⟩] }

/-- TIME SET from UNSET, and a step of 2,001 ms, to second 7,999,782. -/
def unset782 : State := (((quiet.setTime State.reset.time).setJobs ⟨spans false, 30⟩).setAccess tables)
def step782 : State := ((busy.setJobs ⟨spans true, 30⟩).setAccess tables)

theorem witness_TimeAnnounced :
    (slewed.reached slewed.time.slewEnd = true ∧ slewed.timeKnown = true ∧ ClockOk slewed ∧ TablesOk slewed ∧
      Settled slewed ∧ (∀ p b, (slewed.path p).boundary = some b → slewed.netSec < b.moment) ∧
      (∀ j ∈ slewed.jobs.list, (j.startExpiry ≠ none → (slewed.netSec : Int) < j.effStart) ∧
        (j.endExpiry ≠ none → (slewed.netSec : Int) < j.effStop))) ∧
    (∃ s a tag body rest, Taken s a .timeSet tag body rest ∧ fields [8] body = some [7999782001] ∧
      s.time.state = .unset ∧ (∀ j ∈ s.jobs.list, j.state ≠ .active ∧ j.endExpiry = none) ∧
      (∀ e ∈ s.guide.pool, 7999782001 / 1000 ≤ e.start + e.duration + 3600) ∧ ClockOk s ∧ TablesOk s ∧
      HoldersOk s ∧ Settled s ∧ StartDueOk s ∧ s.jobs.list = spans false ∧ s.access = tables) ∧
    (∃ s a tag body rest, Taken s a .timeMark tag body rest ∧ fields [8] body = some [7999782001] ∧
      s.time.state ≠ .unset ∧ s.time.source = .outOfBand ∧ (s.netMs : Int) + 2001 = 7999782001 ∧ ClockOk s ∧
      TablesOk s ∧ HoldersOk s ∧ Settled s ∧ StartDueOk s ∧ s.jobs.list = spans true ∧ s.access = tables) := by
  refine ⟨⟨by decide +kernel, by decide +kernel, by unfold ClockOk; decide +kernel,
      tablesOk (by decide +kernel) (by decide +kernel) (by decide +kernel) rfl (by decide +kernel),
      settled (by decide +kernel), fun p => of_all (by revert p; decide +kernel), by decide +kernel⟩,
    ⟨_, _, _, _, _, taken .timeSet .media (u64 7999782001) unset782 (by decide +kernel), by decide +kernel, rfl,
      by decide +kernel, by decide +kernel, by unfold ClockOk; decide +kernel,
      TablesOk_asked (tablesOk (by decide +kernel) (by decide +kernel) (by decide +kernel) rfl (by decide +kernel)),
      HoldersOk_asked ⟨quiet_holdersOk.1, quiet_holdersOk.2, quiet_holdersOk.3, quiet_holdersOk.4,
        quiet_holdersOk.5, quiet_holdersOk.6, quiet_holdersOk.7⟩, settled (by decide +kernel),
      by unfold StartDueOk; decide +kernel, rfl, rfl⟩,
    ⟨_, _, _, _, _, taken .timeMark .network (u64 7999782001) step782 (by decide +kernel), by decide +kernel,
      by decide +kernel, by decide +kernel, by decide +kernel, by unfold ClockOk; decide +kernel,
      TablesOk_asked (tablesOk (by decide +kernel) (by decide +kernel) (by decide +kernel) rfl (by decide +kernel)),
      HoldersOk_asked ⟨busy_holdersOk.1, busy_holdersOk.2, busy_holdersOk.3, busy_holdersOk.4,
        busy_holdersOk.5, busy_holdersOk.6, busy_holdersOk.7⟩, settled (by decide +kernel),
      by unfold StartDueOk; decide +kernel, rfl, rfl⟩⟩

/-- The jobs a part reset finds at second 7,999,780: finished; ahead by a second; at its end, ACTIVE and start due;
and at its first second and its last, SCHEDULED and ACTIVE. -/
theorem witness_PartReset_jobs :
    (∀ x ∈ [(JobState.complete, (7999000 : Nat), (8002000 : Nat), false), (.scheduled, 7999781, 8000000, false),
        (.active, 7999000, 7999780, false), (.scheduled, 7999000, 7999780, true),
        (.scheduled, 7999780, 7999781, false), (.active, 7999000, 7999781, false)],
      ∃ s a tag rest j, Taken s a .partReset tag [] rest ∧ TablesOk s ∧ j ∈ s.jobs.list ∧ j.state = x.1 ∧
        s.time.state ≠ .unset ∧ s.netSec = 7999780 ∧ j.effStart = x.2.1 ∧ j.effStop = x.2.2.1 ∧
        j.startDue = x.2.2.2) ∧
    (∃ s a tag rest, Taken s a .partReset tag [] rest ∧ s.jobs.list = [] ∧ s.power.state = .quiescing ∧
      s.store.write ≠ none ∧ (s.parental.minuteExpiry ≠ none → s.parental.run ≠ none)) :=
  ⟨fun x hx => ⟨_, _, _, _,
      { dueJob 501 x.2.2.2 with state := x.1, start := x.2.1, stop := x.2.2.1 },
      taken .partReset .media [] (quiet.setJobs
        ⟨[{ dueJob 501 x.2.2.2 with state := x.1, start := x.2.1, stop := x.2.2.1 }], 9⟩)
        (by revert x; decide +kernel), TablesOk_asked (quiet_tablesOk _), List.mem_singleton.2 rfl, rfl,
      by revert x; decide +kernel, by revert x; decide +kernel, by revert x; decide +kernel,
      by revert x; decide +kernel, rfl⟩,
    ⟨_, _, _, _, taken .partReset .media [] (powered .quiescing [] true false) (by decide +kernel),
      by decide +kernel, rfl, by decide +kernel, by decide +kernel⟩⟩

end Sys2Proof.Tests
end

section
/-! PROOFS. The gate of a path (R83, R85): the table of verdicts line by line, the path and the Card Link after an
evaluation, and the obligation on both. -/

namespace Sys2Proof.Machine

/-! ### The path a change of state and an emptying of slots leave -/

/-- A path reads the same after an operation that cannot change the paths. -/
theorem Only.path {fs : List Field} {s t : State} (h : Only fs s t) (p : PathNo)
    (n : Field.paths ∉ fs := by decide) : t.path p = s.path p := congrArg (·.get p) (h.paths n)

/-- A change of a path's state gives the path that state and changes no other path, whatever its notices are and
whatever it hands on (R72). -/
@[simp] theorem setPathState_path (p q : PathNo) (new : PathState) (s : State) :
    (setPathState p new s).path q = if q = p then { s.path p with state := new } else s.path q := by
  unfold setPathState
  extract_lets old before named noticed
  have hnamed : named.path q = if q = p then { s.path p with state := new } else s.path q :=
    ((raise_only _ .path).path q).trans (onPath_path s p q _)
  have hnoticed : noticed.path q = named.path q := by
    unfold noticed; split
    · exact (raise_only _ .access).path q
    · rfl
  split
  · next same =>
    subst same
    split
    · next hq => subst hq; rfl
    · rfl
  · rw [← hnamed, ← hnoticed]
    split
    · exact (followMeter_only _ _).path q
    · exact (handToJob_only _ _ _ _).path q

@[simp] theorem setPathState_card (p : PathNo) (new : PathState) (s : State) :
    (setPathState p new s).card = s.card := (setPathState_only s p new).card

@[simp] theorem emptySlots_path (p q : PathNo) (s : State) :
    (emptySlots p s).path q =
      if q = p then { s.path p with slotA := Slot.empty, slotB := Slot.empty } else s.path q := by
  have cancelled (r : PathNo) : (cancelUnwraps p [.a, .b] s).path r = s.path r :=
    (cancelUnwraps_only s _ _).path r
  simp [emptySlots, cancelled]

@[simp] theorem emptySlots_card (p : PathNo) (s : State) :
    (emptySlots p s).card = (cancelUnwraps p [.a, .b] s).card := (onPath_only _ p _).card

/-! ### The cancelling of a path's unwraps (R137) -/

theorem isUnwrapOf_iff (p : PathNo) (tx : Transaction) :
    isUnwrapOf p [.a, .b] tx = true ↔ ∃ ph n q w, tx = .unwrap p ph n q w := by
  cases tx with
  | verify => simp [isUnwrapOf]
  | unwrap q ph => cases ph <;> simp [isUnwrapOf]

theorem mem_waiting_cancelUnwraps (p : PathNo) (s : State) (tx : Transaction) :
    tx ∈ (cancelUnwraps p [.a, .b] s).card.waiting ↔
      tx ∈ s.card.waiting ∧ ∀ ph n q w, tx ≠ .unwrap p ph n q w := by
  have kept : (!isUnwrapOf p [.a, .b] tx) = true ↔ ∀ ph n q w, tx ≠ .unwrap p ph n q w := by
    rw [Bool.not_eq_true', ← Bool.not_eq_true, isUnwrapOf_iff]
    simp
  exact List.mem_filter.trans (and_congr_right' kept)

/-- An outstanding UNWRAP of the path stays for its answer, marked stale. -/
theorem stale_of_mem_outstanding_cancelUnwraps {p : PathNo} {s : State} {e : Entry}
    (he : e ∈ (cancelUnwraps p [.a, .b] s).card.outstanding)
    (hu : ∃ ph n q w, e.tx = .unwrap p ph n q w) : e.stale = true := by
  obtain ⟨e₀, -, rfl⟩ := List.mem_map.1 he
  split
  · rfl
  · next other =>
    rw [if_neg other] at hu
    exact absurd ((isUnwrapOf_iff p e₀.tx).2 hu) other

/-! ### The table of verdicts (R83) -/

section Verdict

variable {s : State} {p : PathNo} {x : Path} {v : Service} {i : InputNo}

theorem verdict_of_no_input (hi : x.heldInput = none) :
    verdict s p x v = .stalled .inputTaken := by
  simp [verdict, hi]

theorem verdict_of_tuning (hi : x.heldInput = some i) (hs : (s.input i).state = .tuning) :
    verdict s p x v = .tuning := by
  simp [verdict, hi, hs]

theorem verdict_of_lost (hi : x.heldInput = some i) (hs : (s.input i).state = .lost) :
    verdict s p x v = .stalled .noSignal := by
  simp [verdict, hi, hs]

theorem verdict_of_locked (hi : x.heldInput = some i) (hs : (s.input i).state = .locked) :
    verdict s p x v = lockedVerdict s p x v := by
  simp [verdict, hi, hs]

theorem lockedVerdict_of_access_fails {r : AccessReason} (ha : accessTest s x v = some r) :
    lockedVerdict s p x v = .denied r := by
  simp [lockedVerdict, ha]

theorem lockedVerdict_of_parental_refuses {r : BlockReason} (ha : accessTest s x v = none)
    (hp : p.val < 2) (hr : parentalVerdict s x v = some r) :
    lockedVerdict s p x v = .blocked r := by
  simp [lockedVerdict, ha, isView, hp, hr]

/-- Past orders 2 and 3 the key slots decide (orders 4 and 5); a record path has no parental step. -/
theorem lockedVerdict_of_passed (ha : accessTest s x v = none)
    (hp : p.val < 2 → parentalVerdict s x v = none) :
    lockedVerdict s p x v =
      if v.access ≠ .free ∧ x.slotA.loaded = none ∧ x.slotB.loaded = none then .acquiring
      else .presenting := by
  have parental : (if isView p then parentalVerdict s x v else none) = none := by
    split
    · next view => exact hp (of_decide_eq_true view)
    · rfl
  simp only [lockedVerdict, ha, parental]

end Verdict

theorem emptiesSlots_iff (st : PathState) :
    emptiesSlots st = true ↔ st = .stalled .inputTaken ∨ ∃ r, st = .denied r := by
  cases st with
  | stalled r => cases r <;> simp [emptiesSlots]
  | _ => simp [emptiesSlots]

/-! ### An evaluation of the gate -/

section Gate

variable {s : State} {p : PathNo} {v : Service}

theorem gate_of_snapshot (hv : (s.path p).snapshot = some v) :
    gate p s = setPathState p (verdict s p (s.path p) v)
      (if emptiesSlots (verdict s p (s.path p) v) then emptySlots p s else s) := by
  simp [gate, hv]

theorem gate_path_state (hv : (s.path p).snapshot = some v) :
    ((gate p s).path p).state = verdict s p (s.path p) v := by
  simp [gate_of_snapshot hv]

theorem gate_path_of_ne {q : PathNo} (hv : (s.path p).snapshot = some v) (hq : q ≠ p) :
    (gate p s).path q = s.path q := by
  rw [gate_of_snapshot hv, setPathState_path, if_neg hq]
  split
  · rw [emptySlots_path, if_neg hq]
  · rfl

theorem gate_path_of_empties (hv : (s.path p).snapshot = some v)
    (he : emptiesSlots (verdict s p (s.path p) v) = true) :
    (gate p s).path p = { s.path p with
      state := verdict s p (s.path p) v, slotA := Slot.empty, slotB := Slot.empty } := by
  simp [gate_of_snapshot hv, he]

theorem gate_card_of_empties (hv : (s.path p).snapshot = some v)
    (he : emptiesSlots (verdict s p (s.path p) v) = true) :
    (gate p s).card = (cancelUnwraps p [.a, .b] s).card := by
  simp [gate_of_snapshot hv, he]

theorem gate_path_of_keeps (hv : (s.path p).snapshot = some v)
    (he : ¬ emptiesSlots (verdict s p (s.path p) v) = true) :
    (gate p s).path p = { s.path p with state := verdict s p (s.path p) v } := by
  simp [gate_of_snapshot hv, he]

theorem gate_card_of_keeps (hv : (s.path p).snapshot = some v)
    (he : ¬ emptiesSlots (verdict s p (s.path p) v) = true) :
    (gate p s).card = s.card := by
  simp [gate_of_snapshot hv, he]

end Gate

/-- Settles O38: the state reached is the model's `verdict`, read off line by line, and whether the verdict empties
the slots decides the rest of the path and the Card Link. -/
theorem gateVerdict : Obligations.GateVerdict := by
  intro s p v hv x y
  have hy : y.state = verdict s p x v := gate_path_state hv
  rw [hy, ← emptiesSlots_iff]
  refine ⟨verdict_of_no_input, fun i hi => ⟨verdict_of_tuning hi, verdict_of_lost hi, fun hs => ?locked⟩,
    fun he => ⟨gate_path_of_empties hv he, ?cancelled⟩,
    fun he => ⟨gate_path_of_keeps hv he, gate_card_of_keeps hv he⟩,
    fun q hq => gate_path_of_ne hv hq, (gate_only s p).inputs⟩
  case locked =>
    rw [verdict_of_locked hi hs]
    refine ⟨fun r ha => lockedVerdict_of_access_fails ha, fun ha =>
      ⟨fun r hp hr => lockedVerdict_of_parental_refuses ha hp hr, fun hp => ?_⟩⟩
    rw [lockedVerdict_of_passed ha hp]
    refine ⟨fun hf hA hB => if_pos ⟨hf, hA, hB⟩, fun h => if_neg ?_⟩
    rintro ⟨hf, hA, hB⟩
    exact h.elim hf fun h => h.elim (· hA) (· hB)
  case cancelled =>
    rw [gate_card_of_empties hv he]
    exact ⟨fun tx ht => ((mem_waiting_cancelUnwraps p s tx).1 ht).2,
      fun e ho ph n q w hu => stale_of_mem_outstanding_cancelUnwraps ho ⟨ph, n, q, w, hu⟩,
      fun tx hn => (mem_waiting_cancelUnwraps p s tx).trans (and_iff_left hn)⟩

end Sys2Proof.Machine
end

section
/-! PROOFS. The access test and the requirement test (R98, R99): what the lookups of the tier table and of the
purchase list answer, the tier and event checks line by line, and the obligation on both tests. -/

namespace Sys2Proof.Machine

/-! ### What the checks ask of the state -/

theorem timeKnown_iff (s : State) : s.timeKnown = true ↔ ¬ s.time.state = .unset :=
  decide_eq_true_iff

theorem timeKnown_eq_false_iff (s : State) : s.timeKnown = false ↔ s.time.state = .unset := by
  rw [← Bool.not_eq_true, timeKnown_iff, Classical.not_not]

theorem cardUnusable_iff (s : State) :
    cardUnusable s = true ↔ s.card.state = .absent ∨ s.card.state = .faulted :=
  decide_eq_true_iff

theorem Access.tier_eq_none_iff (u : Access) (n : Nat) : u.tier n = none ↔ ∀ r ∈ u.tiers, r.tier ≠ n := by
  simp [Access.tier]

/-- The tier table holds at most one record of a tier (R96), so the lookup finds that one. -/
theorem Access.tier_of_unique {u : Access} {n : Nat} {r : Tier} (hr : r ∈ u.tiers) (hn : r.tier = n)
    (only : ∀ q ∈ u.tiers, q.tier = n → q = r) : u.tier n = some r := by
  cases found : u.tier n with
  | none => exact absurd hn ((Access.tier_eq_none_iff u n).1 found r hr)
  | some q =>
    have named : q.tier = n := by simpa using List.find?_some (p := fun r : Tier => r.tier == n) found
    rw [only q (List.mem_of_find?_eq_some found) named]

theorem Access.bought_eq_none_iff (u : Access) (sid eid : Nat) :
    u.bought sid eid = none ↔ ∀ r ∈ u.purchases, ¬ (r.service = sid ∧ r.event = eid) := by
  simp [Access.bought]

section Tests

variable {s : State}

/-- The last check of both tests (R98, R99). -/
def cardCheck (s : State) : Option AccessReason :=
  if cardUnusable s then some .cardAbsent else none

theorem cardCheck_of_no_card (h : s.card.state = .absent ∨ s.card.state = .faulted) :
    cardCheck s = some .cardAbsent :=
  if_pos ((cardUnusable_iff s).2 h)

theorem cardCheck_of_card (h : ¬ (s.card.state = .absent ∨ s.card.state = .faulted)) :
    cardCheck s = none :=
  if_neg (mt (cardUnusable_iff s).1 h)

/-! ### The checks of a tier (R98) -/

section TierChecks

variable {n : Nat} {r : Tier}

theorem tierTest_of_no_record (h : s.access.tier n = none) : tierTest s n = some .notEntitled := by
  simp [tierTest, h]

theorem tierTest_of_time_unset (h : s.access.tier n = some r) (he : r.expiry ≠ none)
    (ht : s.time.state = .unset) : tierTest s n = some .timeUnknown := by
  obtain ⟨e, he⟩ := Option.ne_none_iff_exists'.1 he
  simp [tierTest, h, he, (timeKnown_eq_false_iff s).2 ht]

theorem tierTest_of_expired {e : NetSec} (h : s.access.tier n = some r) (he : r.expiry = some e)
    (ht : ¬ s.time.state = .unset) (hle : e ≤ s.netSec) : tierTest s n = some .tierExpired := by
  simp [tierTest, h, he, (timeKnown_iff s).2 ht, hle]

/-- A record without an expiry, or with one that is ahead, leaves the card check alone. -/
theorem tierTest_of_in_force (h : s.access.tier n = some r)
    (ahead : ∀ e, r.expiry = some e → ¬ s.time.state = .unset ∧ s.netSec < e) :
    tierTest s n = cardCheck s := by
  cases he : r.expiry with
  | none => simp [tierTest, h, he, cardCheck]
  | some e =>
    obtain ⟨ht, hlt⟩ := ahead e he
    simp [tierTest, h, he, (timeKnown_iff s).2 ht, Nat.not_le.2 hlt, cardCheck]

end TierChecks

/-! ### The checks of an event (R98, R99) -/

section EventChecks

variable {sid e : Nat}

theorem requirementTest_event_of_time_unset (ht : s.time.state = .unset) :
    requirementTest s sid (.event e) = some .timeUnknown := by
  simp [requirementTest, (timeKnown_eq_false_iff s).2 ht]

theorem requirementTest_event_of_not_bought (ht : ¬ s.time.state = .unset)
    (h : ∀ r ∈ s.access.purchases, ¬ (r.service = sid ∧ r.event = e)) :
    requirementTest s sid (.event e) = some .notPurchased := by
  simp [requirementTest, (timeKnown_iff s).2 ht, (Access.bought_eq_none_iff s.access sid e).2 h]

theorem requirementTest_event_of_bought (ht : ¬ s.time.state = .unset)
    (h : ∃ r ∈ s.access.purchases, r.service = sid ∧ r.event = e) :
    requirementTest s sid (.event e) = cardCheck s := by
  obtain ⟨r, hr, same⟩ := h
  have held : s.access.bought sid e ≠ none := fun unsold =>
    (Access.bought_eq_none_iff s.access sid e).1 unsold r hr same
  simp [requirementTest, (timeKnown_iff s).2 ht, held, cardCheck]

end EventChecks

/-! ### The access test by access class (R98) -/

section AccessClasses

variable {x : Path} {v : Service}

theorem accessTest_of_free (hv : v.access = .free) : accessTest s x v = none := by
  simp [accessTest, hv]

theorem accessTest_of_tier {n : Nat} (hv : v.access = .tier n) : accessTest s x v = tierTest s n := by
  simp [accessTest, hv]

theorem accessTest_of_event_time_unset (hv : v.access = .event) (ht : s.time.state = .unset) :
    accessTest s x v = some .timeUnknown := by
  simp [accessTest, hv, (timeKnown_eq_false_iff s).2 ht]

theorem accessTest_of_no_current_event (hv : v.access = .event) (ht : ¬ s.time.state = .unset)
    (hc : x.currentEvent = none) : accessTest s x v = some .noEvent := by
  simp [accessTest, hv, (timeKnown_iff s).2 ht, hc]

/-- On a path with a current event the access test asks what a key message requiring that event would ask. -/
theorem accessTest_of_current_event {c : CurrentEvent} (hv : v.access = .event)
    (hc : x.currentEvent = some c) : accessTest s x v = requirementTest s v.id (.event c.id) := by
  simp [accessTest, requirementTest, hv, hc]

end AccessClasses

end Tests

/-- Settles O40: the access test takes the tier checks for class TIER and the event checks of the path's current
event for class EVENT, and the requirement test takes the same two lists of checks. -/
theorem accessTests : Obligations.AccessTests := by
  refine ⟨fun s x v => ⟨accessTest_of_free, fun n hv => ?tier, fun hv => ?event⟩,
    fun s sid => ⟨fun n x v hv => (accessTest_of_tier hv).symm, fun e => ?requirement⟩⟩
  case tier =>
    rw [accessTest_of_tier hv]
    refine ⟨fun missing => tierTest_of_no_record ((Access.tier_eq_none_iff _ n).2 missing),
      fun r hr hn only => ?_⟩
    have found : s.access.tier n = some r := Access.tier_of_unique hr hn only
    exact ⟨tierTest_of_time_unset found, fun e => tierTest_of_expired found,
      fun ahead no => (tierTest_of_in_force found ahead).trans (cardCheck_of_no_card no),
      fun ahead card => (tierTest_of_in_force found ahead).trans (cardCheck_of_card card)⟩
  case event =>
    refine ⟨accessTest_of_event_time_unset hv, accessTest_of_no_current_event hv, fun c ht hc => ?_⟩
    rw [accessTest_of_current_event hv hc]
    refine ⟨requirementTest_event_of_not_bought ht, fun held => ?_⟩
    rw [requirementTest_event_of_bought ht held]
    exact ⟨cardCheck_of_no_card, cardCheck_of_card⟩
  case requirement =>
    refine ⟨requirementTest_event_of_time_unset, requirementTest_event_of_not_bought, fun ht held => ?_⟩
    rw [requirementTest_event_of_bought ht held]
    exact ⟨cardCheck_of_no_card, cardCheck_of_card⟩

end Sys2Proof.Machine
end

section
/-! PROOFS. The parental verdict (R149): the five checks of its table one by one, the verdict as the first of them that
applies, and the obligation on it. -/

namespace Sys2Proof.Machine

/-! ### What the checks ask of the state -/

theorem unlockApplies_iff (x : Path) (sid : Nat) :
    unlockApplies x sid = true ↔
      ∃ u, x.unlock = some u ∧ u.service = sid ∧ u.event = x.currentEvent.map (·.id) := by
  cases hu : x.unlock with
  | none => simp [unlockApplies, hu]
  | some u => simp [unlockApplies, hu]

section RatingToJudge

variable {s : State} {x : Path} {v : Service} {c : CurrentEvent}

theorem ratingToJudge_of_no_current_event (hc : x.currentEvent = none) :
    ratingToJudge s x v = v.rating := by
  simp [ratingToJudge, hc]

theorem ratingToJudge_of_event_gone (hc : x.currentEvent = some c) (he : s.guide.event v.id c.id = none) :
    ratingToJudge s x v = v.rating := by
  simp [ratingToJudge, hc, he]

theorem ratingToJudge_of_event {e : GuideEvent} (hc : x.currentEvent = some c)
    (he : s.guide.event v.id c.id = some e) : ratingToJudge s x v = e.rating.getD v.rating := by
  simp [ratingToJudge, hc, he]

end RatingToJudge

theorem Profile.hasWindow_iff (p : Profile) : p.hasWindow = true ↔ p.winStart ≠ p.winStop :=
  decide_eq_true_iff

/-- The local second may be negative, its minute of day is not. -/
theorem minuteOfDay_cast (s : State) :
    (s.minuteOfDay : Int) = ((s.netSec : Int) + 60 * s.time.zone) % 86400 / 60 := by
  unfold State.minuteOfDay State.localSec
  omega

/-- A window whose start is above its end runs across midnight. -/
theorem insideWindow_iff {a b : Nat} (window : a ≠ b) (m : Nat) :
    insideWindow a b m = true ↔ (a < b ∧ a ≤ m ∧ m < b) ∨ (b < a ∧ (a ≤ m ∨ m < b)) := by
  rcases Nat.lt_or_gt_of_ne window with before | across
  · have right : ¬ b < a := Nat.lt_asymm before
    simp only [insideWindow, before, right, if_true, decide_eq_true_eq, true_and, false_and, or_false]
  · have left : ¬ a < b := Nat.lt_asymm across
    have wraps : b < a := across
    simp only [insideWindow, left, wraps, if_false, decide_eq_true_eq, true_and, false_and, false_or]

/-! ### The table of R149 -/

/-- The condition of each reason in the table of R149, whatever stands above it. -/
def parentalCheck (s : State) (x : Path) (v : Service) : BlockReason → Bool
  | .service => decide (v.id ∈ s.parental.activeProfile.blocked ∧ unlockApplies x v.id = false)
  | .rating => decide (s.parental.activeProfile.ceiling < ratingToJudge s x v ∧ unlockApplies x v.id = false)
  | .timeUnknown => decide (s.parental.activeProfile.hasWindow = true ∧ s.timeKnown = false)
  | .window =>
    let p := s.parental.activeProfile
    decide (p.hasWindow = true ∧ insideWindow p.winStart p.winStop s.minuteOfDay = false)
  | .allowance =>
    let sum := s.parental.allowed s.parental.active
    decide (sum < 1440 ∧ sum ≤ s.parental.activeMeter.used)

/-- A search as the chain of conditionals the verdict is written as. -/
theorem find?_cons_eq_ite {α : Type} (test : α → Bool) (a : α) (l : List α) :
    (a :: l).find? test = if test a = true then some a else l.find? test := by
  cases h : test a <;> simp [h]

/-- The verdict is the first check of the table that applies. -/
theorem parentalVerdict_eq_find (s : State) (x : Path) (v : Service) :
    parentalVerdict s x v =
      [.service, .rating, .timeUnknown, .window, .allowance].find? (parentalCheck s x v) := by
  simp only [find?_cons_eq_ite, List.find?_nil, parentalCheck, decide_eq_true_eq, parentalVerdict]

section Checks

variable {s : State} {x : Path} {v : Service}

theorem parentalCheck_service_iff :
    parentalCheck s x v .service = true ↔
      v.id ∈ s.parental.activeProfile.blocked ∧ ¬ unlockApplies x v.id = true := by
  simp [parentalCheck]

theorem parentalCheck_rating_iff :
    parentalCheck s x v .rating = true ↔
      s.parental.activeProfile.ceiling < ratingToJudge s x v ∧ ¬ unlockApplies x v.id = true := by
  simp [parentalCheck]

theorem parentalCheck_timeUnknown_iff :
    parentalCheck s x v .timeUnknown = true ↔
      s.parental.activeProfile.winStart ≠ s.parental.activeProfile.winStop ∧ s.time.state = .unset := by
  simp [parentalCheck, Profile.hasWindow_iff, timeKnown_eq_false_iff]

/-- The minute of day is read off the network second and the zone (R21). -/
theorem parentalCheck_window_iff :
    let p := s.parental.activeProfile
    let m : Int := ((s.netSec : Int) + 60 * s.time.zone) % 86400 / 60
    parentalCheck s x v .window = true ↔ p.winStart ≠ p.winStop ∧
      ¬ ((p.winStart < p.winStop ∧ (p.winStart : Int) ≤ m ∧ m < p.winStop) ∨
        (p.winStop < p.winStart ∧ ((p.winStart : Int) ≤ m ∨ m < p.winStop))) := by
  intro p m
  have minute : m = s.minuteOfDay := (minuteOfDay_cast s).symm
  rw [parentalCheck, decide_eq_true_iff, Profile.hasWindow_iff, ← Bool.not_eq_true, minute]
  refine and_congr_right fun window => not_congr ((insideWindow_iff window _).trans ?_)
  simp only [Int.ofNat_le, Int.ofNat_lt]
  rfl

theorem parentalCheck_allowance_iff :
    let meter := s.parental.meters.get s.parental.active
    let sum := s.parental.activeProfile.allowance + meter.extension
    parentalCheck s x v .allowance = true ↔ sum < 1440 ∧ sum ≤ meter.used :=
  decide_eq_true_iff

end Checks

/-- Settles O51: each line of the obligation is the model's check of that reason, and the verdict is the first check
that applies. The known time of the WINDOW line is what the failed TIME_UNKNOWN check leaves. -/
theorem parentalVerdict_follows_table : Obligations.ParentalVerdict := by
  intro s x v p sum unlocked rating m inside one two three four five
  have lifted : unlockApplies x v.id = true ↔ unlocked := unlockApplies_iff x v.id
  have judged : ratingToJudge s x v = rating := by
    cases hc : x.currentEvent with
    | none => simp only [rating, hc, ratingToJudge_of_no_current_event hc]
    | some c =>
      cases he : s.guide.event v.id c.id with
      | none => simp only [rating, hc, he, ratingToJudge_of_event_gone hc he]
      | some e => simp only [rating, hc, he, ratingToJudge_of_event hc he]
  have service_iff : parentalCheck s x v .service = true ↔ one := by
    rw [parentalCheck_service_iff, lifted]
  have rating_iff : parentalCheck s x v .rating = true ↔ two := by
    rw [parentalCheck_rating_iff, lifted, judged]
  have timeUnknown_iff : parentalCheck s x v .timeUnknown = true ↔ three := parentalCheck_timeUnknown_iff
  have window_iff (known : ¬ three) : parentalCheck s x v .window = true ↔ four := by
    refine parentalCheck_window_iff.trans (and_congr_right fun window => ?_)
    exact (and_iff_right fun unset => known ⟨window, unset⟩).symm
  have allowance_iff : parentalCheck s x v .allowance = true ↔ five := parentalCheck_allowance_iff
  rw [parentalVerdict_eq_find]
  refine ⟨fun h₁ => ?_, fun h₁ h₂ => ?_, fun h₁ h₂ h₃ => ?_, fun h₁ h₂ h₃ h₄ => ?_,
    fun h₁ h₂ h₃ h₄ h₅ => ?_, fun h₁ h₂ h₃ h₄ h₅ => ?_⟩
  · rw [List.find?_cons_of_pos (service_iff.2 h₁)]
  all_goals rw [List.find?_cons_of_neg (mt service_iff.1 h₁)]
  · rw [List.find?_cons_of_pos (rating_iff.2 h₂)]
  all_goals rw [List.find?_cons_of_neg (mt rating_iff.1 h₂)]
  · rw [List.find?_cons_of_pos (timeUnknown_iff.2 h₃)]
  all_goals rw [List.find?_cons_of_neg (mt timeUnknown_iff.1 h₃)]
  · rw [List.find?_cons_of_pos ((window_iff h₃).2 h₄)]
  all_goals rw [List.find?_cons_of_neg (mt (window_iff h₃).1 h₄)]
  · rw [List.find?_cons_of_pos (allowance_iff.2 h₅)]
  · rw [List.find?_cons_of_neg (mt allowance_iff.1 h₅), List.find?_nil]

end Sys2Proof.Machine
end
